-- ==== Sys2Proof/Word.lean ====
section
/-! DEFINITION. The word types of the PicoBoy CORE and the names its encodings select: registers, register
pairs, conditions, ALU and shift operations, and the value of a 3-bit opcode field.
Rules R7, R9, R10, R102 and R104 to R110 of the spec. -/

namespace Sys2Proof

/-- One byte (R7, R60). -/
abbrev Byte := BitVec 8

/-- A 16-bit value: an address, `SP`, `PC`, a register pair (R7, R21). -/
abbrev Word := BitVec 16

/-- A 2-bit shade of the display (R37). -/
abbrev Shade := BitVec 2

/-- The seven 8-bit registers: the accumulator `A` and six general registers (R20). -/
inductive Reg8 where
  | A | B | C | D | E | H | L
  deriving DecidableEq, Repr

/-- The 16-bit operands of loads and arithmetic: three pairs and the stack pointer (R105). -/
inductive Reg16 where
  | BC | DE | HL | SP
  deriving DecidableEq, Repr

/-- The three register pairs (R21). `AF` is no pair of registers: PUSH AF and POP AF have rules of their own (R25). -/
inductive Pair where
  | BC | DE | HL
  deriving DecidableEq, Repr

/-- The four branch conditions (R107). -/
inductive Cond where
  | NZ | Z | NC | C
  deriving DecidableEq, Repr

/-- The eight accumulator operations, in the order of their 3-bit code (R108). -/
inductive AluOp where
  | add | adc | sub | sbc | and | xor | or | cp
  deriving DecidableEq, Repr

/-- The eight rotate and shift operations, in the order of their 3-bit code (R109). -/
inductive ShiftOp where
  | rlc | rrc | rl | rr | sla | sra | swap | srl
  deriving DecidableEq, Repr

/-- The value of a 3-bit field: an opcode's `y` or `z` (R102), a bit number `b` or a restart target `t` (R110). -/
inductive Octal where
  | o0 | o1 | o2 | o3 | o4 | o5 | o6 | o7
  deriving DecidableEq, Repr

/-- The number a 3-bit field holds. -/
def Octal.toNat : Octal → Nat
  | .o0 => 0 | .o1 => 1 | .o2 => 2 | .o3 => 3
  | .o4 => 4 | .o5 => 5 | .o6 => 6 | .o7 => 7

end Sys2Proof
end

