-- ==== Sys2Proof/Config.lean ====
section
/-! DEFINITION. What is fixed for the machine. First what the source itself fixes: bounds, counts and sizes. Then the
types of the named parameters of R8 that are addresses or colours: a parameter is a value a session takes and keeps
(R59), and Machine/Params.lean has the record of all of them with its defaults. Last the one free value, the bytes of a
boot overlay that no host has supplied. -/

namespace Sys2Proof
namespace Config

/-! ## Bounds the source gives, or that follow from them (R61) -/

@[simp] abbrev bootLast : Nat := 0x00FF
@[simp] abbrev romFixedLast : Nat := 0x3FFF
@[simp] abbrev romLast : Nat := 0x7FFF
@[simp] abbrev echoFirst : Nat := 0xE000
@[simp] abbrev echoLast : Nat := 0xFDFF
/-- How far below an echo address its working RAM byte lies (R65). -/
@[simp] abbrev echoOffset : Nat := 0x2000
/-- "The interrupt-enable byte at the very top of the address space" (R61). -/
@[simp] abbrev addrIE : Nat := 0xFFFF

/-- The bytes the DMA copy moves, the size of the sprite attribute table (R78). -/
@[simp] abbrev dmaLength : Nat := 160

/-- Pixels of a scanline (R7). -/
@[simp] abbrev lineWidth : Nat := 160

/-- Visible scanlines of a frame (R7). -/
@[simp] abbrev visibleLines : Nat := 144

/-- The last scanline of a frame (R7). -/
@[simp] abbrev lastLine : Nat := 153

/-- What a byte of the backing array that no cell lists reads as: its reset value with every parameter at its default,
0x00, but for STAT, which holds the code of VBlank (R58). Memory lists only what differs from this. -/
def resetByte (a : Nat) : Byte := if a = 0xFF41 then 0x01 else 0x00

/-- What a cartridge image holds at an index past its end (R82). -/
def romPastEnd : Byte := 0xFF

/-- The default of `UNDEFINED_OPCODES` (R8, R114). -/
def undefinedOpcodes : List Byte :=
  [0xD3, 0xDB, 0xDD, 0xE3, 0xE4, 0xEB, 0xEC, 0xED, 0xF4, 0xFC, 0xFD]

/-- The byte of the boot overlay at an address for which the host has supplied none. R401: with profile `boot`
and no image, `BOOT[a]` is undefined. FREE VALUE: it has no body, so no proof can know it
(notes/assumptions/1.md). -/
opaque freeBootByte : Nat → Byte

end Config

/-! ## `IOADDR`: the named I/O registers and their addresses (R8, R40) -/

/-- The named I/O registers (R40). -/
inductive IoReg where
  | JOYP | SB | SC | DIVLO | DIV | TIMA | TMA | TAC | IF
  | LCDC | STAT | SCY | SCX | LY | LYC | DMA | BGP | OBP0 | OBP1 | WY | WX | BOOTOFF | IE
  deriving DecidableEq, Repr

/-- All of them. -/
def IoReg.all : List IoReg :=
  [.JOYP, .SB, .SC, .DIVLO, .DIV, .TIMA, .TMA, .TAC, .IF, .LCDC, .STAT, .SCY, .SCX, .LY, .LYC, .DMA, .BGP, .OBP0,
    .OBP1, .WY, .WX, .BOOTOFF, .IE]

/-- An address for every named I/O register but IE, whose address the source gives. -/
structure IoAddresses where
  joyp : Nat
  sb : Nat
  sc : Nat
  divlo : Nat
  div : Nat
  tima : Nat
  tma : Nat
  tac : Nat
  iflag : Nat
  lcdc : Nat
  stat : Nat
  scy : Nat
  scx : Nat
  ly : Nat
  lyc : Nat
  dma : Nat
  bgp : Nat
  obp0 : Nat
  obp1 : Nat
  wy : Nat
  wx : Nat
  bootoff : Nat
  deriving DecidableEq, Repr

/-- `IOADDR.<name>`. -/
def IoAddresses.addr (t : IoAddresses) : IoReg → Nat
  | .JOYP => t.joyp | .SB => t.sb | .SC => t.sc | .DIVLO => t.divlo | .DIV => t.div | .TIMA => t.tima
  | .TMA => t.tma | .TAC => t.tac | .IF => t.iflag | .LCDC => t.lcdc | .STAT => t.stat | .SCY => t.scy
  | .SCX => t.scx | .LY => t.ly | .LYC => t.lyc | .DMA => t.dma | .BGP => t.bgp | .OBP0 => t.obp0
  | .OBP1 => t.obp1 | .WY => t.wy | .WX => t.wx | .BOOTOFF => t.bootoff | .IE => Config.addrIE

/-! ## `REGION`: the bounds of the memory regions that the source names without bounds (R8, R61) -/

/-- The addresses from a first one to a last one. -/
structure AddrRange where
  first : Nat
  last : Nat
  deriving DecidableEq, Repr

/-- The regions named without bounds, each with its first and last address (R61). -/
structure RegionBounds where
  videoRam : AddrRange
  externalRam : AddrRange
  workRam : AddrRange
  /-- The sprite attribute table. -/
  spriteTable : AddrRange
  /-- The region that reads 0xFF. -/
  unusable : AddrRange
  /-- The memory-mapped I/O registers. -/
  io : AddrRange
  highRam : AddrRange
  deriving DecidableEq, Repr

/-- All the ranges between the cartridge window and IE, the mirror's among them. -/
def RegionBounds.ranges (b : RegionBounds) : List AddrRange :=
  [b.videoRam, b.externalRam, b.workRam, ⟨Config.echoFirst, Config.echoLast⟩, b.spriteTable, b.unusable, b.io, b.highRam]

/-- Two ranges share no address. -/
abbrev AddrRange.apart (r q : AddrRange) : Prop := r.last < q.first ∨ q.last < r.first

/-- The ranges are a partition of what lies between the cartridge window and IE (R61): none is empty, each ends where
another begins or at IE, and no two share an address. -/
def RegionBounds.isPartition (b : RegionBounds) : Bool :=
  b.ranges.all (fun r => decide (0x8000 ≤ r.first ∧ r.first ≤ r.last ∧ r.last < Config.addrIE)
      && (decide (r.last + 1 = Config.addrIE) || b.ranges.any (fun q => decide (q.first = r.last + 1))))
    && decide (b.ranges.Pairwise AddrRange.apart)

/-- The bounds keep to what the source says of the regions (R61): video RAM begins where the cartridge window ends, working
RAM holds the bytes that the echo mirror shows, the sprite table has its 160 bytes, and the I/O registers are all in the
high page. -/
def RegionBounds.keepsSource (b : RegionBounds) : Bool :=
  decide (b.videoRam.first = Config.romLast + 1
    ∧ b.workRam.first ≤ Config.echoFirst - Config.echoOffset ∧ Config.echoLast - Config.echoOffset ≤ b.workRam.last
    ∧ b.spriteTable.last + 1 = b.spriteTable.first + Config.dmaLength ∧ 0xFF00 ≤ b.io.first)

/-- The regions of R61. -/
inductive Region where
  | cartridge | videoRam | externalRam | workRam | echo | spriteTable | unusable | io | highRam | ie
  deriving DecidableEq, Repr

/-- What makes bounds and addresses a map: the regions are a partition that keeps the source's own bounds (R61), the
registers but IE lie in the I/O region, and no two lie at one address (R40). -/
def legalMap (b : RegionBounds) (t : IoAddresses) : Bool :=
  b.isPartition && b.keepsSource
    && IoReg.all.all (fun r => decide (r = .IE ∨ (b.io.first ≤ t.addr r ∧ t.addr r ≤ b.io.last)))
    && decide (IoReg.all.map t.addr).Nodup

/-- The parameters `REGION` and `IOADDR` together, as they constrain each other. -/
structure AddressMap where
  bounds : RegionBounds
  io : IoAddresses
  legal : legalMap bounds io = true
  deriving DecidableEq, Repr

/-- The address of a named I/O register. -/
def AddressMap.addr (m : AddressMap) (r : IoReg) : Nat := m.io.addr r

/-! ## `INT_VECTOR` and `SHADE_RGB` (R8, R302, R383) -/

/-- `INT_VECTOR[0..4]`. -/
structure IntVectors where
  vBlank : Word
  lcd : Word
  timer : Word
  serial : Word
  input : Word
  deriving DecidableEq, Repr

/-- A colour of the host's picture. -/
structure Rgb where
  red : Nat
  green : Nat
  blue : Nat
  deriving DecidableEq, Repr

/-- `SHADE_RGB[0..3]`. -/
structure ShadeColours where
  shade0 : Rgb
  shade1 : Rgb
  shade2 : Rgb
  shade3 : Rgb
  deriving DecidableEq, Repr

end Sys2Proof
end

