-- ==== Sys2Proof/Syntax.lean ====
section
/-! DEFINITION. The instructions: one constructor per row of spec/opcode_table.json, in the table's order (but the prefix's row last), named
after the row's mnemonic (`m` before an operand says that it is the byte of memory at that address: `mHL` is
`(HL)`). The operands the opcode's fixed bits select are part of the name; a constructor's arguments are the
operand bytes that follow the opcode (R101, R111): `n` an unsigned byte, `e` the raw byte of a signed
displacement, `nn` a 16-bit immediate. `stop` keeps the byte that STOP fetches and ignores (R292); `undefined`
keeps the opcode byte that has no table entry (R296); `prefixCB` is the row of the prefix byte, which is no
instruction by itself (R295). -/

namespace Sys2Proof

/-- The rows of the opcode table (R112, R113, R120). -/
inductive Instr where
  -- primary page 0x00 to 0x0F
  | nop  -- NOP, R290
  | ld_BC_nn (nn : Word)  -- LD BC,nn, R161
  | ld_mBC_A  -- LD (BC),A, R138
  | inc_BC  -- INC BC, R222
  | inc_B  -- INC B, R200
  | dec_B  -- DEC B, R202
  | ld_B_n (n : Byte)  -- LD B,n, R132
  | rlca  -- RLCA, R231
  | ld_mnn_SP (nn : Word)  -- LD (nn),SP, R162
  | add_HL_BC  -- ADD HL,BC, R221
  | ld_A_mBC  -- LD A,(BC), R136
  | dec_BC  -- DEC BC, R223
  | inc_C  -- INC C, R200
  | dec_C  -- DEC C, R202
  | ld_C_n (n : Byte)  -- LD C,n, R132
  | rrca  -- RRCA, R233
  -- primary page 0x10 to 0x1F
  | stop (pad : Byte)  -- STOP, R292
  | ld_DE_nn (nn : Word)  -- LD DE,nn, R161
  | ld_mDE_A  -- LD (DE),A, R139
  | inc_DE  -- INC DE, R222
  | inc_D  -- INC D, R200
  | dec_D  -- DEC D, R202
  | ld_D_n (n : Byte)  -- LD D,n, R132
  | rla  -- RLA, R232
  | jr_e (e : Byte)  -- JR e, R274
  | add_HL_DE  -- ADD HL,DE, R221
  | ld_A_mDE  -- LD A,(DE), R137
  | dec_DE  -- DEC DE, R223
  | inc_E  -- INC E, R200
  | dec_E  -- DEC E, R202
  | ld_E_n (n : Byte)  -- LD E,n, R132
  | rra  -- RRA, R234
  -- primary page 0x20 to 0x2F
  | jr_NZ_e (e : Byte)  -- JR NZ,e, R275
  | ld_HL_nn (nn : Word)  -- LD HL,nn, R161
  | ld_mHLinc_A  -- LD (HL+),A, R146
  | inc_HL  -- INC HL, R222
  | inc_H  -- INC H, R200
  | dec_H  -- DEC H, R202
  | ld_H_n (n : Byte)  -- LD H,n, R132
  | daa  -- DAA, R204
  | jr_Z_e (e : Byte)  -- JR Z,e, R275
  | add_HL_HL  -- ADD HL,HL, R221
  | ld_A_mHLinc  -- LD A,(HL+), R147
  | dec_HL  -- DEC HL, R223
  | inc_L  -- INC L, R200
  | dec_L  -- DEC L, R202
  | ld_L_n (n : Byte)  -- LD L,n, R132
  | cpl  -- CPL, R205
  -- primary page 0x30 to 0x3F
  | jr_NC_e (e : Byte)  -- JR NC,e, R275
  | ld_SP_nn (nn : Word)  -- LD SP,nn, R161
  | ld_mHLdec_A  -- LD (HL-),A, R148
  | inc_SP  -- INC SP, R222
  | inc_mHL  -- INC (HL), R201
  | dec_mHL  -- DEC (HL), R203
  | ld_mHL_n (n : Byte)  -- LD (HL),n, R135
  | scf  -- SCF, R206
  | jr_C_e (e : Byte)  -- JR C,e, R275
  | add_HL_SP  -- ADD HL,SP, R221
  | ld_A_mHLdec  -- LD A,(HL-), R149
  | dec_SP  -- DEC SP, R223
  | inc_A  -- INC A, R200
  | dec_A  -- DEC A, R202
  | ld_A_n (n : Byte)  -- LD A,n, R132
  | ccf  -- CCF, R207
  -- primary page 0x40 to 0x4F
  | ld_B_B  -- LD B,B, R131
  | ld_B_C  -- LD B,C, R131
  | ld_B_D  -- LD B,D, R131
  | ld_B_E  -- LD B,E, R131
  | ld_B_H  -- LD B,H, R131
  | ld_B_L  -- LD B,L, R131
  | ld_B_mHL  -- LD B,(HL), R133
  | ld_B_A  -- LD B,A, R131
  | ld_C_B  -- LD C,B, R131
  | ld_C_C  -- LD C,C, R131
  | ld_C_D  -- LD C,D, R131
  | ld_C_E  -- LD C,E, R131
  | ld_C_H  -- LD C,H, R131
  | ld_C_L  -- LD C,L, R131
  | ld_C_mHL  -- LD C,(HL), R133
  | ld_C_A  -- LD C,A, R131
  -- primary page 0x50 to 0x5F
  | ld_D_B  -- LD D,B, R131
  | ld_D_C  -- LD D,C, R131
  | ld_D_D  -- LD D,D, R131
  | ld_D_E  -- LD D,E, R131
  | ld_D_H  -- LD D,H, R131
  | ld_D_L  -- LD D,L, R131
  | ld_D_mHL  -- LD D,(HL), R133
  | ld_D_A  -- LD D,A, R131
  | ld_E_B  -- LD E,B, R131
  | ld_E_C  -- LD E,C, R131
  | ld_E_D  -- LD E,D, R131
  | ld_E_E  -- LD E,E, R131
  | ld_E_H  -- LD E,H, R131
  | ld_E_L  -- LD E,L, R131
  | ld_E_mHL  -- LD E,(HL), R133
  | ld_E_A  -- LD E,A, R131
  -- primary page 0x60 to 0x6F
  | ld_H_B  -- LD H,B, R131
  | ld_H_C  -- LD H,C, R131
  | ld_H_D  -- LD H,D, R131
  | ld_H_E  -- LD H,E, R131
  | ld_H_H  -- LD H,H, R131
  | ld_H_L  -- LD H,L, R131
  | ld_H_mHL  -- LD H,(HL), R133
  | ld_H_A  -- LD H,A, R131
  | ld_L_B  -- LD L,B, R131
  | ld_L_C  -- LD L,C, R131
  | ld_L_D  -- LD L,D, R131
  | ld_L_E  -- LD L,E, R131
  | ld_L_H  -- LD L,H, R131
  | ld_L_L  -- LD L,L, R131
  | ld_L_mHL  -- LD L,(HL), R133
  | ld_L_A  -- LD L,A, R131
  -- primary page 0x70 to 0x7F
  | ld_mHL_B  -- LD (HL),B, R134
  | ld_mHL_C  -- LD (HL),C, R134
  | ld_mHL_D  -- LD (HL),D, R134
  | ld_mHL_E  -- LD (HL),E, R134
  | ld_mHL_H  -- LD (HL),H, R134
  | ld_mHL_L  -- LD (HL),L, R134
  | halt  -- HALT, R291
  | ld_mHL_A  -- LD (HL),A, R134
  | ld_A_B  -- LD A,B, R131
  | ld_A_C  -- LD A,C, R131
  | ld_A_D  -- LD A,D, R131
  | ld_A_E  -- LD A,E, R131
  | ld_A_H  -- LD A,H, R131
  | ld_A_L  -- LD A,L, R131
  | ld_A_mHL  -- LD A,(HL), R133
  | ld_A_A  -- LD A,A, R131
  -- primary page 0x80 to 0x8F
  | add_A_B  -- ADD A,B, R176
  | add_A_C  -- ADD A,C, R176
  | add_A_D  -- ADD A,D, R176
  | add_A_E  -- ADD A,E, R176
  | add_A_H  -- ADD A,H, R176
  | add_A_L  -- ADD A,L, R176
  | add_A_mHL  -- ADD A,(HL), R177
  | add_A_A  -- ADD A,A, R176
  | adc_A_B  -- ADC A,B, R179
  | adc_A_C  -- ADC A,C, R179
  | adc_A_D  -- ADC A,D, R179
  | adc_A_E  -- ADC A,E, R179
  | adc_A_H  -- ADC A,H, R179
  | adc_A_L  -- ADC A,L, R179
  | adc_A_mHL  -- ADC A,(HL), R180
  | adc_A_A  -- ADC A,A, R179
  -- primary page 0x90 to 0x9F
  | sub_B  -- SUB B, R182
  | sub_C  -- SUB C, R182
  | sub_D  -- SUB D, R182
  | sub_E  -- SUB E, R182
  | sub_H  -- SUB H, R182
  | sub_L  -- SUB L, R182
  | sub_mHL  -- SUB (HL), R183
  | sub_A  -- SUB A, R182
  | sbc_A_B  -- SBC A,B, R185
  | sbc_A_C  -- SBC A,C, R185
  | sbc_A_D  -- SBC A,D, R185
  | sbc_A_E  -- SBC A,E, R185
  | sbc_A_H  -- SBC A,H, R185
  | sbc_A_L  -- SBC A,L, R185
  | sbc_A_mHL  -- SBC A,(HL), R186
  | sbc_A_A  -- SBC A,A, R185
  -- primary page 0xA0 to 0xAF
  | and_B  -- AND B, R188
  | and_C  -- AND C, R188
  | and_D  -- AND D, R188
  | and_E  -- AND E, R188
  | and_H  -- AND H, R188
  | and_L  -- AND L, R188
  | and_mHL  -- AND (HL), R189
  | and_A  -- AND A, R188
  | xor_B  -- XOR B, R191
  | xor_C  -- XOR C, R191
  | xor_D  -- XOR D, R191
  | xor_E  -- XOR E, R191
  | xor_H  -- XOR H, R191
  | xor_L  -- XOR L, R191
  | xor_mHL  -- XOR (HL), R192
  | xor_A  -- XOR A, R191
  -- primary page 0xB0 to 0xBF
  | or_B  -- OR B, R194
  | or_C  -- OR C, R194
  | or_D  -- OR D, R194
  | or_E  -- OR E, R194
  | or_H  -- OR H, R194
  | or_L  -- OR L, R194
  | or_mHL  -- OR (HL), R195
  | or_A  -- OR A, R194
  | cp_B  -- CP B, R197
  | cp_C  -- CP C, R197
  | cp_D  -- CP D, R197
  | cp_E  -- CP E, R197
  | cp_H  -- CP H, R197
  | cp_L  -- CP L, R197
  | cp_mHL  -- CP (HL), R198
  | cp_A  -- CP A, R197
  -- primary page 0xC0 to 0xCF
  | ret_NZ  -- RET NZ, R279
  | pop_BC  -- POP BC, R167
  | jp_NZ_nn (nn : Word)  -- JP NZ,nn, R272
  | jp_nn (nn : Word)  -- JP nn, R271
  | call_NZ_nn (nn : Word)  -- CALL NZ,nn, R277
  | push_BC  -- PUSH BC, R165
  | add_A_n (n : Byte)  -- ADD A,n, R178
  | rst_00H  -- RST 00H, R281
  | ret_Z  -- RET Z, R279
  | ret  -- RET, R278
  | jp_Z_nn (nn : Word)  -- JP Z,nn, R272
  | call_Z_nn (nn : Word)  -- CALL Z,nn, R277
  | call_nn (nn : Word)  -- CALL nn, R276
  | adc_A_n (n : Byte)  -- ADC A,n, R181
  | rst_08H  -- RST 08H, R281
  -- primary page 0xD0 to 0xDF
  | ret_NC  -- RET NC, R279
  | pop_DE  -- POP DE, R167
  | jp_NC_nn (nn : Word)  -- JP NC,nn, R272
  | undefined (op : Byte)  -- UNDEFINED, R296
  | call_NC_nn (nn : Word)  -- CALL NC,nn, R277
  | push_DE  -- PUSH DE, R165
  | sub_n (n : Byte)  -- SUB n, R184
  | rst_10H  -- RST 10H, R281
  | ret_C  -- RET C, R279
  | reti  -- RETI, R280
  | jp_C_nn (nn : Word)  -- JP C,nn, R272
  | call_C_nn (nn : Word)  -- CALL C,nn, R277
  | sbc_A_n (n : Byte)  -- SBC A,n, R187
  | rst_18H  -- RST 18H, R281
  -- primary page 0xE0 to 0xEF
  | ldh_mn_A (n : Byte)  -- LDH (n),A, R143
  | pop_HL  -- POP HL, R167
  | ld_mC_A  -- LD (C),A, R145
  | push_HL  -- PUSH HL, R165
  | and_n (n : Byte)  -- AND n, R190
  | rst_20H  -- RST 20H, R281
  | add_SP_e (e : Byte)  -- ADD SP,e, R224
  | jp_HL  -- JP HL, R273
  | ld_mnn_A (nn : Word)  -- LD (nn),A, R141
  | xor_n (n : Byte)  -- XOR n, R193
  | rst_28H  -- RST 28H, R281
  -- primary page 0xF0 to 0xFF
  | ldh_A_mn (n : Byte)  -- LDH A,(n), R142
  | pop_AF  -- POP AF, R168
  | ld_A_mC  -- LD A,(C), R144
  | di  -- DI, R293
  | push_AF  -- PUSH AF, R166
  | or_n (n : Byte)  -- OR n, R196
  | rst_30H  -- RST 30H, R281
  | ld_HL_SPe (e : Byte)  -- LD HL,SP+e, R164
  | ld_SP_HL  -- LD SP,HL, R163
  | ld_A_mnn (nn : Word)  -- LD A,(nn), R140
  | ei  -- EI, R294
  | cp_n (n : Byte)  -- CP n, R199
  | rst_38H  -- RST 38H, R281
  -- extended page, 0xCB then 0x00 to 0x0F
  | rlc_B  -- RLC B, R235
  | rlc_C  -- RLC C, R235
  | rlc_D  -- RLC D, R235
  | rlc_E  -- RLC E, R235
  | rlc_H  -- RLC H, R235
  | rlc_L  -- RLC L, R235
  | rlc_mHL  -- RLC (HL), R236
  | rlc_A  -- RLC A, R235
  | rrc_B  -- RRC B, R237
  | rrc_C  -- RRC C, R237
  | rrc_D  -- RRC D, R237
  | rrc_E  -- RRC E, R237
  | rrc_H  -- RRC H, R237
  | rrc_L  -- RRC L, R237
  | rrc_mHL  -- RRC (HL), R238
  | rrc_A  -- RRC A, R237
  -- extended page, 0xCB then 0x10 to 0x1F
  | rl_B  -- RL B, R239
  | rl_C  -- RL C, R239
  | rl_D  -- RL D, R239
  | rl_E  -- RL E, R239
  | rl_H  -- RL H, R239
  | rl_L  -- RL L, R239
  | rl_mHL  -- RL (HL), R240
  | rl_A  -- RL A, R239
  | rr_B  -- RR B, R241
  | rr_C  -- RR C, R241
  | rr_D  -- RR D, R241
  | rr_E  -- RR E, R241
  | rr_H  -- RR H, R241
  | rr_L  -- RR L, R241
  | rr_mHL  -- RR (HL), R242
  | rr_A  -- RR A, R241
  -- extended page, 0xCB then 0x20 to 0x2F
  | sla_B  -- SLA B, R243
  | sla_C  -- SLA C, R243
  | sla_D  -- SLA D, R243
  | sla_E  -- SLA E, R243
  | sla_H  -- SLA H, R243
  | sla_L  -- SLA L, R243
  | sla_mHL  -- SLA (HL), R244
  | sla_A  -- SLA A, R243
  | sra_B  -- SRA B, R245
  | sra_C  -- SRA C, R245
  | sra_D  -- SRA D, R245
  | sra_E  -- SRA E, R245
  | sra_H  -- SRA H, R245
  | sra_L  -- SRA L, R245
  | sra_mHL  -- SRA (HL), R246
  | sra_A  -- SRA A, R245
  -- extended page, 0xCB then 0x30 to 0x3F
  | swap_B  -- SWAP B, R247
  | swap_C  -- SWAP C, R247
  | swap_D  -- SWAP D, R247
  | swap_E  -- SWAP E, R247
  | swap_H  -- SWAP H, R247
  | swap_L  -- SWAP L, R247
  | swap_mHL  -- SWAP (HL), R248
  | swap_A  -- SWAP A, R247
  | srl_B  -- SRL B, R249
  | srl_C  -- SRL C, R249
  | srl_D  -- SRL D, R249
  | srl_E  -- SRL E, R249
  | srl_H  -- SRL H, R249
  | srl_L  -- SRL L, R249
  | srl_mHL  -- SRL (HL), R250
  | srl_A  -- SRL A, R249
  -- extended page, 0xCB then 0x40 to 0x4F
  | bit_0_B  -- BIT 0,B, R251
  | bit_0_C  -- BIT 0,C, R251
  | bit_0_D  -- BIT 0,D, R251
  | bit_0_E  -- BIT 0,E, R251
  | bit_0_H  -- BIT 0,H, R251
  | bit_0_L  -- BIT 0,L, R251
  | bit_0_mHL  -- BIT 0,(HL), R252
  | bit_0_A  -- BIT 0,A, R251
  | bit_1_B  -- BIT 1,B, R251
  | bit_1_C  -- BIT 1,C, R251
  | bit_1_D  -- BIT 1,D, R251
  | bit_1_E  -- BIT 1,E, R251
  | bit_1_H  -- BIT 1,H, R251
  | bit_1_L  -- BIT 1,L, R251
  | bit_1_mHL  -- BIT 1,(HL), R252
  | bit_1_A  -- BIT 1,A, R251
  -- extended page, 0xCB then 0x50 to 0x5F
  | bit_2_B  -- BIT 2,B, R251
  | bit_2_C  -- BIT 2,C, R251
  | bit_2_D  -- BIT 2,D, R251
  | bit_2_E  -- BIT 2,E, R251
  | bit_2_H  -- BIT 2,H, R251
  | bit_2_L  -- BIT 2,L, R251
  | bit_2_mHL  -- BIT 2,(HL), R252
  | bit_2_A  -- BIT 2,A, R251
  | bit_3_B  -- BIT 3,B, R251
  | bit_3_C  -- BIT 3,C, R251
  | bit_3_D  -- BIT 3,D, R251
  | bit_3_E  -- BIT 3,E, R251
  | bit_3_H  -- BIT 3,H, R251
  | bit_3_L  -- BIT 3,L, R251
  | bit_3_mHL  -- BIT 3,(HL), R252
  | bit_3_A  -- BIT 3,A, R251
  -- extended page, 0xCB then 0x60 to 0x6F
  | bit_4_B  -- BIT 4,B, R251
  | bit_4_C  -- BIT 4,C, R251
  | bit_4_D  -- BIT 4,D, R251
  | bit_4_E  -- BIT 4,E, R251
  | bit_4_H  -- BIT 4,H, R251
  | bit_4_L  -- BIT 4,L, R251
  | bit_4_mHL  -- BIT 4,(HL), R252
  | bit_4_A  -- BIT 4,A, R251
  | bit_5_B  -- BIT 5,B, R251
  | bit_5_C  -- BIT 5,C, R251
  | bit_5_D  -- BIT 5,D, R251
  | bit_5_E  -- BIT 5,E, R251
  | bit_5_H  -- BIT 5,H, R251
  | bit_5_L  -- BIT 5,L, R251
  | bit_5_mHL  -- BIT 5,(HL), R252
  | bit_5_A  -- BIT 5,A, R251
  -- extended page, 0xCB then 0x70 to 0x7F
  | bit_6_B  -- BIT 6,B, R251
  | bit_6_C  -- BIT 6,C, R251
  | bit_6_D  -- BIT 6,D, R251
  | bit_6_E  -- BIT 6,E, R251
  | bit_6_H  -- BIT 6,H, R251
  | bit_6_L  -- BIT 6,L, R251
  | bit_6_mHL  -- BIT 6,(HL), R252
  | bit_6_A  -- BIT 6,A, R251
  | bit_7_B  -- BIT 7,B, R251
  | bit_7_C  -- BIT 7,C, R251
  | bit_7_D  -- BIT 7,D, R251
  | bit_7_E  -- BIT 7,E, R251
  | bit_7_H  -- BIT 7,H, R251
  | bit_7_L  -- BIT 7,L, R251
  | bit_7_mHL  -- BIT 7,(HL), R252
  | bit_7_A  -- BIT 7,A, R251
  -- extended page, 0xCB then 0x80 to 0x8F
  | res_0_B  -- RES 0,B, R253
  | res_0_C  -- RES 0,C, R253
  | res_0_D  -- RES 0,D, R253
  | res_0_E  -- RES 0,E, R253
  | res_0_H  -- RES 0,H, R253
  | res_0_L  -- RES 0,L, R253
  | res_0_mHL  -- RES 0,(HL), R254
  | res_0_A  -- RES 0,A, R253
  | res_1_B  -- RES 1,B, R253
  | res_1_C  -- RES 1,C, R253
  | res_1_D  -- RES 1,D, R253
  | res_1_E  -- RES 1,E, R253
  | res_1_H  -- RES 1,H, R253
  | res_1_L  -- RES 1,L, R253
  | res_1_mHL  -- RES 1,(HL), R254
  | res_1_A  -- RES 1,A, R253
  -- extended page, 0xCB then 0x90 to 0x9F
  | res_2_B  -- RES 2,B, R253
  | res_2_C  -- RES 2,C, R253
  | res_2_D  -- RES 2,D, R253
  | res_2_E  -- RES 2,E, R253
  | res_2_H  -- RES 2,H, R253
  | res_2_L  -- RES 2,L, R253
  | res_2_mHL  -- RES 2,(HL), R254
  | res_2_A  -- RES 2,A, R253
  | res_3_B  -- RES 3,B, R253
  | res_3_C  -- RES 3,C, R253
  | res_3_D  -- RES 3,D, R253
  | res_3_E  -- RES 3,E, R253
  | res_3_H  -- RES 3,H, R253
  | res_3_L  -- RES 3,L, R253
  | res_3_mHL  -- RES 3,(HL), R254
  | res_3_A  -- RES 3,A, R253
  -- extended page, 0xCB then 0xA0 to 0xAF
  | res_4_B  -- RES 4,B, R253
  | res_4_C  -- RES 4,C, R253
  | res_4_D  -- RES 4,D, R253
  | res_4_E  -- RES 4,E, R253
  | res_4_H  -- RES 4,H, R253
  | res_4_L  -- RES 4,L, R253
  | res_4_mHL  -- RES 4,(HL), R254
  | res_4_A  -- RES 4,A, R253
  | res_5_B  -- RES 5,B, R253
  | res_5_C  -- RES 5,C, R253
  | res_5_D  -- RES 5,D, R253
  | res_5_E  -- RES 5,E, R253
  | res_5_H  -- RES 5,H, R253
  | res_5_L  -- RES 5,L, R253
  | res_5_mHL  -- RES 5,(HL), R254
  | res_5_A  -- RES 5,A, R253
  -- extended page, 0xCB then 0xB0 to 0xBF
  | res_6_B  -- RES 6,B, R253
  | res_6_C  -- RES 6,C, R253
  | res_6_D  -- RES 6,D, R253
  | res_6_E  -- RES 6,E, R253
  | res_6_H  -- RES 6,H, R253
  | res_6_L  -- RES 6,L, R253
  | res_6_mHL  -- RES 6,(HL), R254
  | res_6_A  -- RES 6,A, R253
  | res_7_B  -- RES 7,B, R253
  | res_7_C  -- RES 7,C, R253
  | res_7_D  -- RES 7,D, R253
  | res_7_E  -- RES 7,E, R253
  | res_7_H  -- RES 7,H, R253
  | res_7_L  -- RES 7,L, R253
  | res_7_mHL  -- RES 7,(HL), R254
  | res_7_A  -- RES 7,A, R253
  -- extended page, 0xCB then 0xC0 to 0xCF
  | set_0_B  -- SET 0,B, R255
  | set_0_C  -- SET 0,C, R255
  | set_0_D  -- SET 0,D, R255
  | set_0_E  -- SET 0,E, R255
  | set_0_H  -- SET 0,H, R255
  | set_0_L  -- SET 0,L, R255
  | set_0_mHL  -- SET 0,(HL), R256
  | set_0_A  -- SET 0,A, R255
  | set_1_B  -- SET 1,B, R255
  | set_1_C  -- SET 1,C, R255
  | set_1_D  -- SET 1,D, R255
  | set_1_E  -- SET 1,E, R255
  | set_1_H  -- SET 1,H, R255
  | set_1_L  -- SET 1,L, R255
  | set_1_mHL  -- SET 1,(HL), R256
  | set_1_A  -- SET 1,A, R255
  -- extended page, 0xCB then 0xD0 to 0xDF
  | set_2_B  -- SET 2,B, R255
  | set_2_C  -- SET 2,C, R255
  | set_2_D  -- SET 2,D, R255
  | set_2_E  -- SET 2,E, R255
  | set_2_H  -- SET 2,H, R255
  | set_2_L  -- SET 2,L, R255
  | set_2_mHL  -- SET 2,(HL), R256
  | set_2_A  -- SET 2,A, R255
  | set_3_B  -- SET 3,B, R255
  | set_3_C  -- SET 3,C, R255
  | set_3_D  -- SET 3,D, R255
  | set_3_E  -- SET 3,E, R255
  | set_3_H  -- SET 3,H, R255
  | set_3_L  -- SET 3,L, R255
  | set_3_mHL  -- SET 3,(HL), R256
  | set_3_A  -- SET 3,A, R255
  -- extended page, 0xCB then 0xE0 to 0xEF
  | set_4_B  -- SET 4,B, R255
  | set_4_C  -- SET 4,C, R255
  | set_4_D  -- SET 4,D, R255
  | set_4_E  -- SET 4,E, R255
  | set_4_H  -- SET 4,H, R255
  | set_4_L  -- SET 4,L, R255
  | set_4_mHL  -- SET 4,(HL), R256
  | set_4_A  -- SET 4,A, R255
  | set_5_B  -- SET 5,B, R255
  | set_5_C  -- SET 5,C, R255
  | set_5_D  -- SET 5,D, R255
  | set_5_E  -- SET 5,E, R255
  | set_5_H  -- SET 5,H, R255
  | set_5_L  -- SET 5,L, R255
  | set_5_mHL  -- SET 5,(HL), R256
  | set_5_A  -- SET 5,A, R255
  -- extended page, 0xCB then 0xF0 to 0xFF
  | set_6_B  -- SET 6,B, R255
  | set_6_C  -- SET 6,C, R255
  | set_6_D  -- SET 6,D, R255
  | set_6_E  -- SET 6,E, R255
  | set_6_H  -- SET 6,H, R255
  | set_6_L  -- SET 6,L, R255
  | set_6_mHL  -- SET 6,(HL), R256
  | set_6_A  -- SET 6,A, R255
  | set_7_B  -- SET 7,B, R255
  | set_7_C  -- SET 7,C, R255
  | set_7_D  -- SET 7,D, R255
  | set_7_E  -- SET 7,E, R255
  | set_7_H  -- SET 7,H, R255
  | set_7_L  -- SET 7,L, R255
  | set_7_mHL  -- SET 7,(HL), R256
  | set_7_A  -- SET 7,A, R255
  -- the prefix byte
  | prefixCB  -- PREFIX CB, R295
  deriving DecidableEq, Repr

end Sys2Proof
end

