-- ==== Sys2Proof/Decode.lean ====
section
/-! DEFINITION. The decoder and, after it, the encoder. The decoder reads the fields `x`, `y`, `z` of an opcode byte
(R102) and names the row that the operand, condition, operation and bit codes of R104 to R110 select; it is total
on the first three bytes at `PC` (R103), and on a list of bytes it refuses by name what is too short. The encoder
writes the bytes of each row as the opcode table lists them, so that the two are written from two descriptions
of the encoding. -/

namespace Sys2Proof

/-! ## The fields of an opcode byte (R102) -/

/-- The three low bits of a number. -/
def octalOf (k : Nat) : Octal :=
  match k % 8 with
  | 0 => .o0 | 1 => .o1 | 2 => .o2 | 3 => .o3
  | 4 => .o4 | 5 => .o5 | 6 => .o6 | _ => .o7

/-- Bits 7..6 of an opcode byte. -/
def fieldX (op : Byte) : Nat := op.toNat / 64

/-- Bits 5..3 of an opcode byte. -/
def fieldY (op : Byte) : Octal := octalOf (op.toNat / 8)

/-- Bits 2..0 of an opcode byte. -/
def fieldZ (op : Byte) : Octal := octalOf op.toNat

/-! ## The operand codes (R104 to R109) -/

/-- An 8-bit operand code names a register; code 110 is the byte of memory at `HL` (R104). -/
def codeReg8 : Octal → Option Reg8
  | .o0 => some .B | .o1 => some .C | .o2 => some .D | .o3 => some .E
  | .o4 => some .H | .o5 => some .L | .o6 => none | .o7 => some .A

/-- The accumulator operation of a 3-bit code (R108). -/
def codeAlu : Octal → AluOp
  | .o0 => .add | .o1 => .adc | .o2 => .sub | .o3 => .sbc
  | .o4 => .and | .o5 => .xor | .o6 => .or | .o7 => .cp

/-- The rotate or shift operation of a 3-bit code (R109). -/
def codeShift : Octal → ShiftOp
  | .o0 => .rlc | .o1 => .rrc | .o2 => .rl | .o3 => .rr
  | .o4 => .sla | .o5 => .sra | .o6 => .swap | .o7 => .srl

/-! ## The row that an instruction form has for given operands

`rowF x y` is the table's row of the form F whose fixed bits select the operands x and y. -/

/-- `LD r,r'` (R131). -/
def rowLdRegReg : Reg8 → Reg8 → Instr
  | .A, .A => .ld_A_A | .A, .B => .ld_A_B | .A, .C => .ld_A_C | .A, .D => .ld_A_D
  | .A, .E => .ld_A_E | .A, .H => .ld_A_H | .A, .L => .ld_A_L | .B, .A => .ld_B_A
  | .B, .B => .ld_B_B | .B, .C => .ld_B_C | .B, .D => .ld_B_D | .B, .E => .ld_B_E
  | .B, .H => .ld_B_H | .B, .L => .ld_B_L | .C, .A => .ld_C_A | .C, .B => .ld_C_B
  | .C, .C => .ld_C_C | .C, .D => .ld_C_D | .C, .E => .ld_C_E | .C, .H => .ld_C_H
  | .C, .L => .ld_C_L | .D, .A => .ld_D_A | .D, .B => .ld_D_B | .D, .C => .ld_D_C
  | .D, .D => .ld_D_D | .D, .E => .ld_D_E | .D, .H => .ld_D_H | .D, .L => .ld_D_L
  | .E, .A => .ld_E_A | .E, .B => .ld_E_B | .E, .C => .ld_E_C | .E, .D => .ld_E_D
  | .E, .E => .ld_E_E | .E, .H => .ld_E_H | .E, .L => .ld_E_L | .H, .A => .ld_H_A
  | .H, .B => .ld_H_B | .H, .C => .ld_H_C | .H, .D => .ld_H_D | .H, .E => .ld_H_E
  | .H, .H => .ld_H_H | .H, .L => .ld_H_L | .L, .A => .ld_L_A | .L, .B => .ld_L_B
  | .L, .C => .ld_L_C | .L, .D => .ld_L_D | .L, .E => .ld_L_E | .L, .H => .ld_L_H
  | .L, .L => .ld_L_L

/-- `LD r,n` (R132). -/
def rowLdRegImm : Reg8 → Byte → Instr
  | .A => .ld_A_n
  | .B => .ld_B_n
  | .C => .ld_C_n
  | .D => .ld_D_n
  | .E => .ld_E_n
  | .H => .ld_H_n
  | .L => .ld_L_n

/-- `LD r,(HL)` (R133). -/
def rowLdRegMem : Reg8 → Instr
  | .A => .ld_A_mHL
  | .B => .ld_B_mHL
  | .C => .ld_C_mHL
  | .D => .ld_D_mHL
  | .E => .ld_E_mHL
  | .H => .ld_H_mHL
  | .L => .ld_L_mHL

/-- `LD (HL),r` (R134). -/
def rowLdMemReg : Reg8 → Instr
  | .A => .ld_mHL_A
  | .B => .ld_mHL_B
  | .C => .ld_mHL_C
  | .D => .ld_mHL_D
  | .E => .ld_mHL_E
  | .H => .ld_mHL_H
  | .L => .ld_mHL_L

/-- `LD rr,nn` (R161). -/
def rowLdPairImm : Reg16 → Word → Instr
  | .BC => .ld_BC_nn
  | .DE => .ld_DE_nn
  | .HL => .ld_HL_nn
  | .SP => .ld_SP_nn

/-- `PUSH rr` (R165). -/
def rowPush : Pair → Instr
  | .BC => .push_BC
  | .DE => .push_DE
  | .HL => .push_HL

/-- `POP rr` (R167). -/
def rowPop : Pair → Instr
  | .BC => .pop_BC
  | .DE => .pop_DE
  | .HL => .pop_HL

/-- The eight accumulator operations on a register (R176, R179, R182, R185, R188, R191, R194, R197). -/
def rowAluReg : AluOp → Reg8 → Instr
  | .add, .A => .add_A_A | .add, .B => .add_A_B | .add, .C => .add_A_C | .add, .D => .add_A_D
  | .add, .E => .add_A_E | .add, .H => .add_A_H | .add, .L => .add_A_L | .adc, .A => .adc_A_A
  | .adc, .B => .adc_A_B | .adc, .C => .adc_A_C | .adc, .D => .adc_A_D | .adc, .E => .adc_A_E
  | .adc, .H => .adc_A_H | .adc, .L => .adc_A_L | .sub, .A => .sub_A | .sub, .B => .sub_B
  | .sub, .C => .sub_C | .sub, .D => .sub_D | .sub, .E => .sub_E | .sub, .H => .sub_H
  | .sub, .L => .sub_L | .sbc, .A => .sbc_A_A | .sbc, .B => .sbc_A_B | .sbc, .C => .sbc_A_C
  | .sbc, .D => .sbc_A_D | .sbc, .E => .sbc_A_E | .sbc, .H => .sbc_A_H | .sbc, .L => .sbc_A_L
  | .and, .A => .and_A | .and, .B => .and_B | .and, .C => .and_C | .and, .D => .and_D
  | .and, .E => .and_E | .and, .H => .and_H | .and, .L => .and_L | .xor, .A => .xor_A
  | .xor, .B => .xor_B | .xor, .C => .xor_C | .xor, .D => .xor_D | .xor, .E => .xor_E
  | .xor, .H => .xor_H | .xor, .L => .xor_L | .or, .A => .or_A | .or, .B => .or_B
  | .or, .C => .or_C | .or, .D => .or_D | .or, .E => .or_E | .or, .H => .or_H
  | .or, .L => .or_L | .cp, .A => .cp_A | .cp, .B => .cp_B | .cp, .C => .cp_C
  | .cp, .D => .cp_D | .cp, .E => .cp_E | .cp, .H => .cp_H | .cp, .L => .cp_L

/-- The eight accumulator operations on `(HL)` (R177, R180, R183, R186, R189, R192, R195, R198). -/
def rowAluMem : AluOp → Instr
  | .add => .add_A_mHL
  | .adc => .adc_A_mHL
  | .sub => .sub_mHL
  | .sbc => .sbc_A_mHL
  | .and => .and_mHL
  | .xor => .xor_mHL
  | .or => .or_mHL
  | .cp => .cp_mHL

/-- The eight accumulator operations on an immediate (R178, R181, R184, R187, R190, R193, R196, R199). -/
def rowAluImm : AluOp → Byte → Instr
  | .add => .add_A_n
  | .adc => .adc_A_n
  | .sub => .sub_n
  | .sbc => .sbc_A_n
  | .and => .and_n
  | .xor => .xor_n
  | .or => .or_n
  | .cp => .cp_n

/-- `INC r` (R200). -/
def rowIncReg : Reg8 → Instr
  | .A => .inc_A
  | .B => .inc_B
  | .C => .inc_C
  | .D => .inc_D
  | .E => .inc_E
  | .H => .inc_H
  | .L => .inc_L

/-- `DEC r` (R202). -/
def rowDecReg : Reg8 → Instr
  | .A => .dec_A
  | .B => .dec_B
  | .C => .dec_C
  | .D => .dec_D
  | .E => .dec_E
  | .H => .dec_H
  | .L => .dec_L

/-- `ADD HL,rr` (R221). -/
def rowAddHl : Reg16 → Instr
  | .BC => .add_HL_BC
  | .DE => .add_HL_DE
  | .HL => .add_HL_HL
  | .SP => .add_HL_SP

/-- `INC rr` (R222). -/
def rowIncPair : Reg16 → Instr
  | .BC => .inc_BC
  | .DE => .inc_DE
  | .HL => .inc_HL
  | .SP => .inc_SP

/-- `DEC rr` (R223). -/
def rowDecPair : Reg16 → Instr
  | .BC => .dec_BC
  | .DE => .dec_DE
  | .HL => .dec_HL
  | .SP => .dec_SP

/-- The rotates, shifts and SWAP on a register (R235, R237, R239, R241, R243, R245, R247, R249). -/
def rowShiftReg : ShiftOp → Reg8 → Instr
  | .rlc, .A => .rlc_A | .rlc, .B => .rlc_B | .rlc, .C => .rlc_C | .rlc, .D => .rlc_D
  | .rlc, .E => .rlc_E | .rlc, .H => .rlc_H | .rlc, .L => .rlc_L | .rrc, .A => .rrc_A
  | .rrc, .B => .rrc_B | .rrc, .C => .rrc_C | .rrc, .D => .rrc_D | .rrc, .E => .rrc_E
  | .rrc, .H => .rrc_H | .rrc, .L => .rrc_L | .rl, .A => .rl_A | .rl, .B => .rl_B
  | .rl, .C => .rl_C | .rl, .D => .rl_D | .rl, .E => .rl_E | .rl, .H => .rl_H
  | .rl, .L => .rl_L | .rr, .A => .rr_A | .rr, .B => .rr_B | .rr, .C => .rr_C
  | .rr, .D => .rr_D | .rr, .E => .rr_E | .rr, .H => .rr_H | .rr, .L => .rr_L
  | .sla, .A => .sla_A | .sla, .B => .sla_B | .sla, .C => .sla_C | .sla, .D => .sla_D
  | .sla, .E => .sla_E | .sla, .H => .sla_H | .sla, .L => .sla_L | .sra, .A => .sra_A
  | .sra, .B => .sra_B | .sra, .C => .sra_C | .sra, .D => .sra_D | .sra, .E => .sra_E
  | .sra, .H => .sra_H | .sra, .L => .sra_L | .swap, .A => .swap_A | .swap, .B => .swap_B
  | .swap, .C => .swap_C | .swap, .D => .swap_D | .swap, .E => .swap_E | .swap, .H => .swap_H
  | .swap, .L => .swap_L | .srl, .A => .srl_A | .srl, .B => .srl_B | .srl, .C => .srl_C
  | .srl, .D => .srl_D | .srl, .E => .srl_E | .srl, .H => .srl_H | .srl, .L => .srl_L

/-- The rotates, shifts and SWAP on `(HL)` (R236, R238, R240, R242, R244, R246, R248, R250). -/
def rowShiftMem : ShiftOp → Instr
  | .rlc => .rlc_mHL
  | .rrc => .rrc_mHL
  | .rl => .rl_mHL
  | .rr => .rr_mHL
  | .sla => .sla_mHL
  | .sra => .sra_mHL
  | .swap => .swap_mHL
  | .srl => .srl_mHL

/-- `BIT b,r` (R251). -/
def rowBitReg : Octal → Reg8 → Instr
  | .o0, .A => .bit_0_A | .o0, .B => .bit_0_B | .o0, .C => .bit_0_C | .o0, .D => .bit_0_D
  | .o0, .E => .bit_0_E | .o0, .H => .bit_0_H | .o0, .L => .bit_0_L | .o1, .A => .bit_1_A
  | .o1, .B => .bit_1_B | .o1, .C => .bit_1_C | .o1, .D => .bit_1_D | .o1, .E => .bit_1_E
  | .o1, .H => .bit_1_H | .o1, .L => .bit_1_L | .o2, .A => .bit_2_A | .o2, .B => .bit_2_B
  | .o2, .C => .bit_2_C | .o2, .D => .bit_2_D | .o2, .E => .bit_2_E | .o2, .H => .bit_2_H
  | .o2, .L => .bit_2_L | .o3, .A => .bit_3_A | .o3, .B => .bit_3_B | .o3, .C => .bit_3_C
  | .o3, .D => .bit_3_D | .o3, .E => .bit_3_E | .o3, .H => .bit_3_H | .o3, .L => .bit_3_L
  | .o4, .A => .bit_4_A | .o4, .B => .bit_4_B | .o4, .C => .bit_4_C | .o4, .D => .bit_4_D
  | .o4, .E => .bit_4_E | .o4, .H => .bit_4_H | .o4, .L => .bit_4_L | .o5, .A => .bit_5_A
  | .o5, .B => .bit_5_B | .o5, .C => .bit_5_C | .o5, .D => .bit_5_D | .o5, .E => .bit_5_E
  | .o5, .H => .bit_5_H | .o5, .L => .bit_5_L | .o6, .A => .bit_6_A | .o6, .B => .bit_6_B
  | .o6, .C => .bit_6_C | .o6, .D => .bit_6_D | .o6, .E => .bit_6_E | .o6, .H => .bit_6_H
  | .o6, .L => .bit_6_L | .o7, .A => .bit_7_A | .o7, .B => .bit_7_B | .o7, .C => .bit_7_C
  | .o7, .D => .bit_7_D | .o7, .E => .bit_7_E | .o7, .H => .bit_7_H | .o7, .L => .bit_7_L

/-- `BIT b,(HL)` (R252). -/
def rowBitMem : Octal → Instr
  | .o0 => .bit_0_mHL
  | .o1 => .bit_1_mHL
  | .o2 => .bit_2_mHL
  | .o3 => .bit_3_mHL
  | .o4 => .bit_4_mHL
  | .o5 => .bit_5_mHL
  | .o6 => .bit_6_mHL
  | .o7 => .bit_7_mHL

/-- `RES b,r` (R253). -/
def rowResReg : Octal → Reg8 → Instr
  | .o0, .A => .res_0_A | .o0, .B => .res_0_B | .o0, .C => .res_0_C | .o0, .D => .res_0_D
  | .o0, .E => .res_0_E | .o0, .H => .res_0_H | .o0, .L => .res_0_L | .o1, .A => .res_1_A
  | .o1, .B => .res_1_B | .o1, .C => .res_1_C | .o1, .D => .res_1_D | .o1, .E => .res_1_E
  | .o1, .H => .res_1_H | .o1, .L => .res_1_L | .o2, .A => .res_2_A | .o2, .B => .res_2_B
  | .o2, .C => .res_2_C | .o2, .D => .res_2_D | .o2, .E => .res_2_E | .o2, .H => .res_2_H
  | .o2, .L => .res_2_L | .o3, .A => .res_3_A | .o3, .B => .res_3_B | .o3, .C => .res_3_C
  | .o3, .D => .res_3_D | .o3, .E => .res_3_E | .o3, .H => .res_3_H | .o3, .L => .res_3_L
  | .o4, .A => .res_4_A | .o4, .B => .res_4_B | .o4, .C => .res_4_C | .o4, .D => .res_4_D
  | .o4, .E => .res_4_E | .o4, .H => .res_4_H | .o4, .L => .res_4_L | .o5, .A => .res_5_A
  | .o5, .B => .res_5_B | .o5, .C => .res_5_C | .o5, .D => .res_5_D | .o5, .E => .res_5_E
  | .o5, .H => .res_5_H | .o5, .L => .res_5_L | .o6, .A => .res_6_A | .o6, .B => .res_6_B
  | .o6, .C => .res_6_C | .o6, .D => .res_6_D | .o6, .E => .res_6_E | .o6, .H => .res_6_H
  | .o6, .L => .res_6_L | .o7, .A => .res_7_A | .o7, .B => .res_7_B | .o7, .C => .res_7_C
  | .o7, .D => .res_7_D | .o7, .E => .res_7_E | .o7, .H => .res_7_H | .o7, .L => .res_7_L

/-- `RES b,(HL)` (R254). -/
def rowResMem : Octal → Instr
  | .o0 => .res_0_mHL
  | .o1 => .res_1_mHL
  | .o2 => .res_2_mHL
  | .o3 => .res_3_mHL
  | .o4 => .res_4_mHL
  | .o5 => .res_5_mHL
  | .o6 => .res_6_mHL
  | .o7 => .res_7_mHL

/-- `SET b,r` (R255). -/
def rowSetReg : Octal → Reg8 → Instr
  | .o0, .A => .set_0_A | .o0, .B => .set_0_B | .o0, .C => .set_0_C | .o0, .D => .set_0_D
  | .o0, .E => .set_0_E | .o0, .H => .set_0_H | .o0, .L => .set_0_L | .o1, .A => .set_1_A
  | .o1, .B => .set_1_B | .o1, .C => .set_1_C | .o1, .D => .set_1_D | .o1, .E => .set_1_E
  | .o1, .H => .set_1_H | .o1, .L => .set_1_L | .o2, .A => .set_2_A | .o2, .B => .set_2_B
  | .o2, .C => .set_2_C | .o2, .D => .set_2_D | .o2, .E => .set_2_E | .o2, .H => .set_2_H
  | .o2, .L => .set_2_L | .o3, .A => .set_3_A | .o3, .B => .set_3_B | .o3, .C => .set_3_C
  | .o3, .D => .set_3_D | .o3, .E => .set_3_E | .o3, .H => .set_3_H | .o3, .L => .set_3_L
  | .o4, .A => .set_4_A | .o4, .B => .set_4_B | .o4, .C => .set_4_C | .o4, .D => .set_4_D
  | .o4, .E => .set_4_E | .o4, .H => .set_4_H | .o4, .L => .set_4_L | .o5, .A => .set_5_A
  | .o5, .B => .set_5_B | .o5, .C => .set_5_C | .o5, .D => .set_5_D | .o5, .E => .set_5_E
  | .o5, .H => .set_5_H | .o5, .L => .set_5_L | .o6, .A => .set_6_A | .o6, .B => .set_6_B
  | .o6, .C => .set_6_C | .o6, .D => .set_6_D | .o6, .E => .set_6_E | .o6, .H => .set_6_H
  | .o6, .L => .set_6_L | .o7, .A => .set_7_A | .o7, .B => .set_7_B | .o7, .C => .set_7_C
  | .o7, .D => .set_7_D | .o7, .E => .set_7_E | .o7, .H => .set_7_H | .o7, .L => .set_7_L

/-- `SET b,(HL)` (R256). -/
def rowSetMem : Octal → Instr
  | .o0 => .set_0_mHL
  | .o1 => .set_1_mHL
  | .o2 => .set_2_mHL
  | .o3 => .set_3_mHL
  | .o4 => .set_4_mHL
  | .o5 => .set_5_mHL
  | .o6 => .set_6_mHL
  | .o7 => .set_7_mHL

/-- `JP cc,nn` (R272). -/
def rowJpCond : Cond → Word → Instr
  | .NZ => .jp_NZ_nn
  | .Z => .jp_Z_nn
  | .NC => .jp_NC_nn
  | .C => .jp_C_nn

/-- `JR cc,e` (R275). -/
def rowJrCond : Cond → Byte → Instr
  | .NZ => .jr_NZ_e
  | .Z => .jr_Z_e
  | .NC => .jr_NC_e
  | .C => .jr_C_e

/-- `CALL cc,nn` (R277). -/
def rowCallCond : Cond → Word → Instr
  | .NZ => .call_NZ_nn
  | .Z => .call_Z_nn
  | .NC => .call_NC_nn
  | .C => .call_C_nn

/-- `RET cc` (R279). -/
def rowRetCond : Cond → Instr
  | .NZ => .ret_NZ
  | .Z => .ret_Z
  | .NC => .ret_NC
  | .C => .ret_C

/-- `RST t` (R281). -/
def rowRst : Octal → Instr
  | .o0 => .rst_00H
  | .o1 => .rst_08H
  | .o2 => .rst_10H
  | .o3 => .rst_18H
  | .o4 => .rst_20H
  | .o5 => .rst_28H
  | .o6 => .rst_30H
  | .o7 => .rst_38H

/-! ## The primary page by quadrant (R112) -/

/-- `x = 00`: the miscellaneous block. `n` is the byte after the opcode, `nn` the two bytes after it. -/
def decodeX0 (y z : Octal) (n : Byte) (nn : Word) : Instr :=
  match z, y with
  | .o0, .o0 => .nop
  | .o0, .o1 => .ld_mnn_SP nn
  | .o0, .o2 => .stop n
  | .o0, .o3 => .jr_e n
  | .o0, .o4 => rowJrCond .NZ n
  | .o0, .o5 => rowJrCond .Z n
  | .o0, .o6 => rowJrCond .NC n
  | .o0, .o7 => rowJrCond .C n
  | .o1, .o0 => rowLdPairImm .BC nn
  | .o1, .o1 => rowAddHl .BC
  | .o1, .o2 => rowLdPairImm .DE nn
  | .o1, .o3 => rowAddHl .DE
  | .o1, .o4 => rowLdPairImm .HL nn
  | .o1, .o5 => rowAddHl .HL
  | .o1, .o6 => rowLdPairImm .SP nn
  | .o1, .o7 => rowAddHl .SP
  | .o2, .o0 => .ld_mBC_A
  | .o2, .o1 => .ld_A_mBC
  | .o2, .o2 => .ld_mDE_A
  | .o2, .o3 => .ld_A_mDE
  | .o2, .o4 => .ld_mHLinc_A
  | .o2, .o5 => .ld_A_mHLinc
  | .o2, .o6 => .ld_mHLdec_A
  | .o2, .o7 => .ld_A_mHLdec
  | .o3, .o0 => rowIncPair .BC
  | .o3, .o1 => rowDecPair .BC
  | .o3, .o2 => rowIncPair .DE
  | .o3, .o3 => rowDecPair .DE
  | .o3, .o4 => rowIncPair .HL
  | .o3, .o5 => rowDecPair .HL
  | .o3, .o6 => rowIncPair .SP
  | .o3, .o7 => rowDecPair .SP
  | .o4, y => match codeReg8 y with
    | some r => rowIncReg r
    | none => .inc_mHL
  | .o5, y => match codeReg8 y with
    | some r => rowDecReg r
    | none => .dec_mHL
  | .o6, y => match codeReg8 y with
    | some r => rowLdRegImm r n
    | none => .ld_mHL_n n
  | .o7, .o0 => .rlca
  | .o7, .o1 => .rrca
  | .o7, .o2 => .rla
  | .o7, .o3 => .rra
  | .o7, .o4 => .daa
  | .o7, .o5 => .cpl
  | .o7, .o6 => .scf
  | .o7, .o7 => .ccf

/-- `x = 01`: `LD r,r'` with `y` the destination and `z` the source, but for `01 110 110`, which is HALT. -/
def decodeX1 (y z : Octal) : Instr :=
  match codeReg8 y, codeReg8 z with
  | some d, some r => rowLdRegReg d r
  | some d, none => rowLdRegMem d
  | none, some r => rowLdMemReg r
  | none, none => .halt

/-- `x = 10`: the accumulator operation `y` on `R8[z]`. -/
def decodeX2 (y z : Octal) : Instr :=
  match codeReg8 z with
  | some r => rowAluReg (codeAlu y) r
  | none => rowAluMem (codeAlu y)

/-- `x = 11`: returns, jumps, calls, the stack, immediates, restarts, the prefix and the undefined values (R114).
`op` is the opcode byte itself. -/
def decodeX3 (y z : Octal) (op n : Byte) (nn : Word) : Instr :=
  match z, y with
  | .o0, .o0 => rowRetCond .NZ
  | .o0, .o1 => rowRetCond .Z
  | .o0, .o2 => rowRetCond .NC
  | .o0, .o3 => rowRetCond .C
  | .o0, .o4 => .ldh_mn_A n
  | .o0, .o5 => .add_SP_e n
  | .o0, .o6 => .ldh_A_mn n
  | .o0, .o7 => .ld_HL_SPe n
  | .o1, .o0 => rowPop .BC
  | .o1, .o1 => .ret
  | .o1, .o2 => rowPop .DE
  | .o1, .o3 => .reti
  | .o1, .o4 => rowPop .HL
  | .o1, .o5 => .jp_HL
  | .o1, .o6 => .pop_AF
  | .o1, .o7 => .ld_SP_HL
  | .o2, .o0 => rowJpCond .NZ nn
  | .o2, .o1 => rowJpCond .Z nn
  | .o2, .o2 => rowJpCond .NC nn
  | .o2, .o3 => rowJpCond .C nn
  | .o2, .o4 => .ld_mC_A
  | .o2, .o5 => .ld_mnn_A nn
  | .o2, .o6 => .ld_A_mC
  | .o2, .o7 => .ld_A_mnn nn
  | .o3, .o0 => .jp_nn nn
  | .o3, .o1 => .prefixCB
  | .o3, .o2 => .undefined op
  | .o3, .o3 => .undefined op
  | .o3, .o4 => .undefined op
  | .o3, .o5 => .undefined op
  | .o3, .o6 => .di
  | .o3, .o7 => .ei
  | .o4, .o0 => rowCallCond .NZ nn
  | .o4, .o1 => rowCallCond .Z nn
  | .o4, .o2 => rowCallCond .NC nn
  | .o4, .o3 => rowCallCond .C nn
  | .o4, .o4 => .undefined op
  | .o4, .o5 => .undefined op
  | .o4, .o6 => .undefined op
  | .o4, .o7 => .undefined op
  | .o5, .o0 => rowPush .BC
  | .o5, .o1 => .call_nn nn
  | .o5, .o2 => rowPush .DE
  | .o5, .o3 => .undefined op
  | .o5, .o4 => rowPush .HL
  | .o5, .o5 => .undefined op
  | .o5, .o6 => .push_AF
  | .o5, .o7 => .undefined op
  | .o6, y => rowAluImm (codeAlu y) n
  | .o7, y => rowRst y

/-- The row of the primary page for the opcode byte `b0`, with its operands from the two bytes after it; a 16-bit
immediate has its low byte first (R101). -/
def decodePrimary (b0 b1 b2 : Byte) : Instr :=
  let y := fieldY b0
  let z := fieldZ b0
  match fieldX b0 with
  | 0 => decodeX0 y z b1 (b2 ++ b1)
  | 1 => decodeX1 y z
  | 2 => decodeX2 y z
  | _ => decodeX3 y z b0 b1 (b2 ++ b1)

/-! ## The extended page (R113) -/

/-- The row of the extended page for the second opcode byte `b1`. All 256 values are defined. -/
def decodeExtended (b1 : Byte) : Instr :=
  let y := fieldY b1
  match fieldX b1, codeReg8 (fieldZ b1) with
  | 0, some r => rowShiftReg (codeShift y) r
  | 0, none => rowShiftMem (codeShift y)
  | 1, some r => rowBitReg y r
  | 1, none => rowBitMem y
  | 2, some r => rowResReg y r
  | 2, none => rowResMem y
  | _, some r => rowSetReg y r
  | _, none => rowSetMem y

/-! ## The decoder (R103) -/

/-- The instruction at three consecutive bytes, by the standard table: after the prefix byte 0xCB the second byte selects
a row of the extended page; a byte of `UNDEFINED_OPCODES` has no entry; any other selects a row of the primary page
(R103, R116). -/
def decodeBytes (b0 b1 b2 : Byte) : Instr :=
  if b0 = 0xCB then decodeExtended b1
  else if Config.undefinedOpcodes.contains b0 then .undefined b0
  else decodePrimary b0 b1 b2

/-- The bytes a row takes, opcode included (R100). -/
def Instr.length : Instr → Nat
  | .nop | .ld_mBC_A | .inc_BC | .inc_B | .dec_B | .rlca
  | .add_HL_BC | .ld_A_mBC | .dec_BC | .inc_C | .dec_C | .rrca
  | .ld_mDE_A | .inc_DE | .inc_D | .dec_D | .rla | .add_HL_DE
  | .ld_A_mDE | .dec_DE | .inc_E | .dec_E | .rra | .ld_mHLinc_A
  | .inc_HL | .inc_H | .dec_H | .daa | .add_HL_HL | .ld_A_mHLinc
  | .dec_HL | .inc_L | .dec_L | .cpl | .ld_mHLdec_A | .inc_SP
  | .inc_mHL | .dec_mHL | .scf | .add_HL_SP | .ld_A_mHLdec | .dec_SP
  | .inc_A | .dec_A | .ccf | .ld_B_B | .ld_B_C | .ld_B_D
  | .ld_B_E | .ld_B_H | .ld_B_L | .ld_B_mHL | .ld_B_A | .ld_C_B
  | .ld_C_C | .ld_C_D | .ld_C_E | .ld_C_H | .ld_C_L | .ld_C_mHL
  | .ld_C_A | .ld_D_B | .ld_D_C | .ld_D_D | .ld_D_E | .ld_D_H
  | .ld_D_L | .ld_D_mHL | .ld_D_A | .ld_E_B | .ld_E_C | .ld_E_D
  | .ld_E_E | .ld_E_H | .ld_E_L | .ld_E_mHL | .ld_E_A | .ld_H_B
  | .ld_H_C | .ld_H_D | .ld_H_E | .ld_H_H | .ld_H_L | .ld_H_mHL
  | .ld_H_A | .ld_L_B | .ld_L_C | .ld_L_D | .ld_L_E | .ld_L_H
  | .ld_L_L | .ld_L_mHL | .ld_L_A | .ld_mHL_B | .ld_mHL_C | .ld_mHL_D
  | .ld_mHL_E | .ld_mHL_H | .ld_mHL_L | .halt | .ld_mHL_A | .ld_A_B
  | .ld_A_C | .ld_A_D | .ld_A_E | .ld_A_H | .ld_A_L | .ld_A_mHL
  | .ld_A_A | .add_A_B | .add_A_C | .add_A_D | .add_A_E | .add_A_H
  | .add_A_L | .add_A_mHL | .add_A_A | .adc_A_B | .adc_A_C | .adc_A_D
  | .adc_A_E | .adc_A_H | .adc_A_L | .adc_A_mHL | .adc_A_A | .sub_B
  | .sub_C | .sub_D | .sub_E | .sub_H | .sub_L | .sub_mHL
  | .sub_A | .sbc_A_B | .sbc_A_C | .sbc_A_D | .sbc_A_E | .sbc_A_H
  | .sbc_A_L | .sbc_A_mHL | .sbc_A_A | .and_B | .and_C | .and_D
  | .and_E | .and_H | .and_L | .and_mHL | .and_A | .xor_B
  | .xor_C | .xor_D | .xor_E | .xor_H | .xor_L | .xor_mHL
  | .xor_A | .or_B | .or_C | .or_D | .or_E | .or_H
  | .or_L | .or_mHL | .or_A | .cp_B | .cp_C | .cp_D
  | .cp_E | .cp_H | .cp_L | .cp_mHL | .cp_A | .ret_NZ
  | .pop_BC | .push_BC | .rst_00H | .ret_Z | .ret | .rst_08H
  | .ret_NC | .pop_DE | .undefined _ | .push_DE | .rst_10H | .ret_C
  | .reti | .rst_18H | .pop_HL | .ld_mC_A | .push_HL | .rst_20H
  | .jp_HL | .rst_28H | .pop_AF | .ld_A_mC | .di | .push_AF
  | .rst_30H | .ld_SP_HL | .ei | .rst_38H | .prefixCB => 1
  | .ld_B_n _ | .ld_C_n _ | .stop _ | .ld_D_n _ | .jr_e _ | .ld_E_n _
  | .jr_NZ_e _ | .ld_H_n _ | .jr_Z_e _ | .ld_L_n _ | .jr_NC_e _ | .ld_mHL_n _
  | .jr_C_e _ | .ld_A_n _ | .add_A_n _ | .adc_A_n _ | .sub_n _ | .sbc_A_n _
  | .ldh_mn_A _ | .and_n _ | .add_SP_e _ | .xor_n _ | .ldh_A_mn _ | .or_n _
  | .ld_HL_SPe _ | .cp_n _ | .rlc_B | .rlc_C | .rlc_D | .rlc_E
  | .rlc_H | .rlc_L | .rlc_mHL | .rlc_A | .rrc_B | .rrc_C
  | .rrc_D | .rrc_E | .rrc_H | .rrc_L | .rrc_mHL | .rrc_A
  | .rl_B | .rl_C | .rl_D | .rl_E | .rl_H | .rl_L
  | .rl_mHL | .rl_A | .rr_B | .rr_C | .rr_D | .rr_E
  | .rr_H | .rr_L | .rr_mHL | .rr_A | .sla_B | .sla_C
  | .sla_D | .sla_E | .sla_H | .sla_L | .sla_mHL | .sla_A
  | .sra_B | .sra_C | .sra_D | .sra_E | .sra_H | .sra_L
  | .sra_mHL | .sra_A | .swap_B | .swap_C | .swap_D | .swap_E
  | .swap_H | .swap_L | .swap_mHL | .swap_A | .srl_B | .srl_C
  | .srl_D | .srl_E | .srl_H | .srl_L | .srl_mHL | .srl_A
  | .bit_0_B | .bit_0_C | .bit_0_D | .bit_0_E | .bit_0_H | .bit_0_L
  | .bit_0_mHL | .bit_0_A | .bit_1_B | .bit_1_C | .bit_1_D | .bit_1_E
  | .bit_1_H | .bit_1_L | .bit_1_mHL | .bit_1_A | .bit_2_B | .bit_2_C
  | .bit_2_D | .bit_2_E | .bit_2_H | .bit_2_L | .bit_2_mHL | .bit_2_A
  | .bit_3_B | .bit_3_C | .bit_3_D | .bit_3_E | .bit_3_H | .bit_3_L
  | .bit_3_mHL | .bit_3_A | .bit_4_B | .bit_4_C | .bit_4_D | .bit_4_E
  | .bit_4_H | .bit_4_L | .bit_4_mHL | .bit_4_A | .bit_5_B | .bit_5_C
  | .bit_5_D | .bit_5_E | .bit_5_H | .bit_5_L | .bit_5_mHL | .bit_5_A
  | .bit_6_B | .bit_6_C | .bit_6_D | .bit_6_E | .bit_6_H | .bit_6_L
  | .bit_6_mHL | .bit_6_A | .bit_7_B | .bit_7_C | .bit_7_D | .bit_7_E
  | .bit_7_H | .bit_7_L | .bit_7_mHL | .bit_7_A | .res_0_B | .res_0_C
  | .res_0_D | .res_0_E | .res_0_H | .res_0_L | .res_0_mHL | .res_0_A
  | .res_1_B | .res_1_C | .res_1_D | .res_1_E | .res_1_H | .res_1_L
  | .res_1_mHL | .res_1_A | .res_2_B | .res_2_C | .res_2_D | .res_2_E
  | .res_2_H | .res_2_L | .res_2_mHL | .res_2_A | .res_3_B | .res_3_C
  | .res_3_D | .res_3_E | .res_3_H | .res_3_L | .res_3_mHL | .res_3_A
  | .res_4_B | .res_4_C | .res_4_D | .res_4_E | .res_4_H | .res_4_L
  | .res_4_mHL | .res_4_A | .res_5_B | .res_5_C | .res_5_D | .res_5_E
  | .res_5_H | .res_5_L | .res_5_mHL | .res_5_A | .res_6_B | .res_6_C
  | .res_6_D | .res_6_E | .res_6_H | .res_6_L | .res_6_mHL | .res_6_A
  | .res_7_B | .res_7_C | .res_7_D | .res_7_E | .res_7_H | .res_7_L
  | .res_7_mHL | .res_7_A | .set_0_B | .set_0_C | .set_0_D | .set_0_E
  | .set_0_H | .set_0_L | .set_0_mHL | .set_0_A | .set_1_B | .set_1_C
  | .set_1_D | .set_1_E | .set_1_H | .set_1_L | .set_1_mHL | .set_1_A
  | .set_2_B | .set_2_C | .set_2_D | .set_2_E | .set_2_H | .set_2_L
  | .set_2_mHL | .set_2_A | .set_3_B | .set_3_C | .set_3_D | .set_3_E
  | .set_3_H | .set_3_L | .set_3_mHL | .set_3_A | .set_4_B | .set_4_C
  | .set_4_D | .set_4_E | .set_4_H | .set_4_L | .set_4_mHL | .set_4_A
  | .set_5_B | .set_5_C | .set_5_D | .set_5_E | .set_5_H | .set_5_L
  | .set_5_mHL | .set_5_A | .set_6_B | .set_6_C | .set_6_D | .set_6_E
  | .set_6_H | .set_6_L | .set_6_mHL | .set_6_A | .set_7_B | .set_7_C
  | .set_7_D | .set_7_E | .set_7_H | .set_7_L | .set_7_mHL | .set_7_A => 2
  | .ld_BC_nn _ | .ld_mnn_SP _ | .ld_DE_nn _ | .ld_HL_nn _ | .ld_SP_nn _ | .jp_NZ_nn _
  | .jp_nn _ | .call_NZ_nn _ | .jp_Z_nn _ | .call_Z_nn _ | .call_nn _ | .jp_NC_nn _
  | .call_NC_nn _ | .jp_C_nn _ | .call_C_nn _ | .ld_mnn_A _ | .ld_A_mnn _ => 3

/-- Why a list of bytes is not decoded. -/
inductive DecodeError where
  /-- There is no byte. -/
  | noBytes
  /-- The list ends before the instruction does. -/
  | truncated
  deriving DecidableEq, Repr

/-- The instruction at the start of a list of bytes, with the bytes after it. A list too short for its
instruction is refused. -/
def decode (bs : List Byte) : Except DecodeError (Instr × List Byte) :=
  match bs with
  | [] => .error .noBytes
  | b0 :: rest =>
    if b0 = 0xCB ∧ rest = [] then .error .truncated
    else
      let i := decodeBytes b0 (rest.getD 0 0) (rest.getD 1 0)
      if bs.length < i.length then .error .truncated else .ok (i, bs.drop i.length)

/-! ## The encoder -/

/-- The bytes of an instruction in fetch order, written from the opcode table (R101, R112, R113). A 16-bit
immediate has its low byte first. The prefix row has the prefix byte alone. -/
def encode : Instr → List Byte
  | .nop => [0x00]
  | .ld_BC_nn nn => [0x01, nn.setWidth 8, (nn >>> 8).setWidth 8]
  | .ld_mBC_A => [0x02]
  | .inc_BC => [0x03]
  | .inc_B => [0x04]
  | .dec_B => [0x05]
  | .ld_B_n n => [0x06, n]
  | .rlca => [0x07]
  | .ld_mnn_SP nn => [0x08, nn.setWidth 8, (nn >>> 8).setWidth 8]
  | .add_HL_BC => [0x09]
  | .ld_A_mBC => [0x0A]
  | .dec_BC => [0x0B]
  | .inc_C => [0x0C]
  | .dec_C => [0x0D]
  | .ld_C_n n => [0x0E, n]
  | .rrca => [0x0F]
  | .stop pad => [0x10, pad]
  | .ld_DE_nn nn => [0x11, nn.setWidth 8, (nn >>> 8).setWidth 8]
  | .ld_mDE_A => [0x12]
  | .inc_DE => [0x13]
  | .inc_D => [0x14]
  | .dec_D => [0x15]
  | .ld_D_n n => [0x16, n]
  | .rla => [0x17]
  | .jr_e e => [0x18, e]
  | .add_HL_DE => [0x19]
  | .ld_A_mDE => [0x1A]
  | .dec_DE => [0x1B]
  | .inc_E => [0x1C]
  | .dec_E => [0x1D]
  | .ld_E_n n => [0x1E, n]
  | .rra => [0x1F]
  | .jr_NZ_e e => [0x20, e]
  | .ld_HL_nn nn => [0x21, nn.setWidth 8, (nn >>> 8).setWidth 8]
  | .ld_mHLinc_A => [0x22]
  | .inc_HL => [0x23]
  | .inc_H => [0x24]
  | .dec_H => [0x25]
  | .ld_H_n n => [0x26, n]
  | .daa => [0x27]
  | .jr_Z_e e => [0x28, e]
  | .add_HL_HL => [0x29]
  | .ld_A_mHLinc => [0x2A]
  | .dec_HL => [0x2B]
  | .inc_L => [0x2C]
  | .dec_L => [0x2D]
  | .ld_L_n n => [0x2E, n]
  | .cpl => [0x2F]
  | .jr_NC_e e => [0x30, e]
  | .ld_SP_nn nn => [0x31, nn.setWidth 8, (nn >>> 8).setWidth 8]
  | .ld_mHLdec_A => [0x32]
  | .inc_SP => [0x33]
  | .inc_mHL => [0x34]
  | .dec_mHL => [0x35]
  | .ld_mHL_n n => [0x36, n]
  | .scf => [0x37]
  | .jr_C_e e => [0x38, e]
  | .add_HL_SP => [0x39]
  | .ld_A_mHLdec => [0x3A]
  | .dec_SP => [0x3B]
  | .inc_A => [0x3C]
  | .dec_A => [0x3D]
  | .ld_A_n n => [0x3E, n]
  | .ccf => [0x3F]
  | .ld_B_B => [0x40]
  | .ld_B_C => [0x41]
  | .ld_B_D => [0x42]
  | .ld_B_E => [0x43]
  | .ld_B_H => [0x44]
  | .ld_B_L => [0x45]
  | .ld_B_mHL => [0x46]
  | .ld_B_A => [0x47]
  | .ld_C_B => [0x48]
  | .ld_C_C => [0x49]
  | .ld_C_D => [0x4A]
  | .ld_C_E => [0x4B]
  | .ld_C_H => [0x4C]
  | .ld_C_L => [0x4D]
  | .ld_C_mHL => [0x4E]
  | .ld_C_A => [0x4F]
  | .ld_D_B => [0x50]
  | .ld_D_C => [0x51]
  | .ld_D_D => [0x52]
  | .ld_D_E => [0x53]
  | .ld_D_H => [0x54]
  | .ld_D_L => [0x55]
  | .ld_D_mHL => [0x56]
  | .ld_D_A => [0x57]
  | .ld_E_B => [0x58]
  | .ld_E_C => [0x59]
  | .ld_E_D => [0x5A]
  | .ld_E_E => [0x5B]
  | .ld_E_H => [0x5C]
  | .ld_E_L => [0x5D]
  | .ld_E_mHL => [0x5E]
  | .ld_E_A => [0x5F]
  | .ld_H_B => [0x60]
  | .ld_H_C => [0x61]
  | .ld_H_D => [0x62]
  | .ld_H_E => [0x63]
  | .ld_H_H => [0x64]
  | .ld_H_L => [0x65]
  | .ld_H_mHL => [0x66]
  | .ld_H_A => [0x67]
  | .ld_L_B => [0x68]
  | .ld_L_C => [0x69]
  | .ld_L_D => [0x6A]
  | .ld_L_E => [0x6B]
  | .ld_L_H => [0x6C]
  | .ld_L_L => [0x6D]
  | .ld_L_mHL => [0x6E]
  | .ld_L_A => [0x6F]
  | .ld_mHL_B => [0x70]
  | .ld_mHL_C => [0x71]
  | .ld_mHL_D => [0x72]
  | .ld_mHL_E => [0x73]
  | .ld_mHL_H => [0x74]
  | .ld_mHL_L => [0x75]
  | .halt => [0x76]
  | .ld_mHL_A => [0x77]
  | .ld_A_B => [0x78]
  | .ld_A_C => [0x79]
  | .ld_A_D => [0x7A]
  | .ld_A_E => [0x7B]
  | .ld_A_H => [0x7C]
  | .ld_A_L => [0x7D]
  | .ld_A_mHL => [0x7E]
  | .ld_A_A => [0x7F]
  | .add_A_B => [0x80]
  | .add_A_C => [0x81]
  | .add_A_D => [0x82]
  | .add_A_E => [0x83]
  | .add_A_H => [0x84]
  | .add_A_L => [0x85]
  | .add_A_mHL => [0x86]
  | .add_A_A => [0x87]
  | .adc_A_B => [0x88]
  | .adc_A_C => [0x89]
  | .adc_A_D => [0x8A]
  | .adc_A_E => [0x8B]
  | .adc_A_H => [0x8C]
  | .adc_A_L => [0x8D]
  | .adc_A_mHL => [0x8E]
  | .adc_A_A => [0x8F]
  | .sub_B => [0x90]
  | .sub_C => [0x91]
  | .sub_D => [0x92]
  | .sub_E => [0x93]
  | .sub_H => [0x94]
  | .sub_L => [0x95]
  | .sub_mHL => [0x96]
  | .sub_A => [0x97]
  | .sbc_A_B => [0x98]
  | .sbc_A_C => [0x99]
  | .sbc_A_D => [0x9A]
  | .sbc_A_E => [0x9B]
  | .sbc_A_H => [0x9C]
  | .sbc_A_L => [0x9D]
  | .sbc_A_mHL => [0x9E]
  | .sbc_A_A => [0x9F]
  | .and_B => [0xA0]
  | .and_C => [0xA1]
  | .and_D => [0xA2]
  | .and_E => [0xA3]
  | .and_H => [0xA4]
  | .and_L => [0xA5]
  | .and_mHL => [0xA6]
  | .and_A => [0xA7]
  | .xor_B => [0xA8]
  | .xor_C => [0xA9]
  | .xor_D => [0xAA]
  | .xor_E => [0xAB]
  | .xor_H => [0xAC]
  | .xor_L => [0xAD]
  | .xor_mHL => [0xAE]
  | .xor_A => [0xAF]
  | .or_B => [0xB0]
  | .or_C => [0xB1]
  | .or_D => [0xB2]
  | .or_E => [0xB3]
  | .or_H => [0xB4]
  | .or_L => [0xB5]
  | .or_mHL => [0xB6]
  | .or_A => [0xB7]
  | .cp_B => [0xB8]
  | .cp_C => [0xB9]
  | .cp_D => [0xBA]
  | .cp_E => [0xBB]
  | .cp_H => [0xBC]
  | .cp_L => [0xBD]
  | .cp_mHL => [0xBE]
  | .cp_A => [0xBF]
  | .ret_NZ => [0xC0]
  | .pop_BC => [0xC1]
  | .jp_NZ_nn nn => [0xC2, nn.setWidth 8, (nn >>> 8).setWidth 8]
  | .jp_nn nn => [0xC3, nn.setWidth 8, (nn >>> 8).setWidth 8]
  | .call_NZ_nn nn => [0xC4, nn.setWidth 8, (nn >>> 8).setWidth 8]
  | .push_BC => [0xC5]
  | .add_A_n n => [0xC6, n]
  | .rst_00H => [0xC7]
  | .ret_Z => [0xC8]
  | .ret => [0xC9]
  | .jp_Z_nn nn => [0xCA, nn.setWidth 8, (nn >>> 8).setWidth 8]
  | .call_Z_nn nn => [0xCC, nn.setWidth 8, (nn >>> 8).setWidth 8]
  | .call_nn nn => [0xCD, nn.setWidth 8, (nn >>> 8).setWidth 8]
  | .adc_A_n n => [0xCE, n]
  | .rst_08H => [0xCF]
  | .ret_NC => [0xD0]
  | .pop_DE => [0xD1]
  | .jp_NC_nn nn => [0xD2, nn.setWidth 8, (nn >>> 8).setWidth 8]
  | .undefined op => [op]
  | .call_NC_nn nn => [0xD4, nn.setWidth 8, (nn >>> 8).setWidth 8]
  | .push_DE => [0xD5]
  | .sub_n n => [0xD6, n]
  | .rst_10H => [0xD7]
  | .ret_C => [0xD8]
  | .reti => [0xD9]
  | .jp_C_nn nn => [0xDA, nn.setWidth 8, (nn >>> 8).setWidth 8]
  | .call_C_nn nn => [0xDC, nn.setWidth 8, (nn >>> 8).setWidth 8]
  | .sbc_A_n n => [0xDE, n]
  | .rst_18H => [0xDF]
  | .ldh_mn_A n => [0xE0, n]
  | .pop_HL => [0xE1]
  | .ld_mC_A => [0xE2]
  | .push_HL => [0xE5]
  | .and_n n => [0xE6, n]
  | .rst_20H => [0xE7]
  | .add_SP_e e => [0xE8, e]
  | .jp_HL => [0xE9]
  | .ld_mnn_A nn => [0xEA, nn.setWidth 8, (nn >>> 8).setWidth 8]
  | .xor_n n => [0xEE, n]
  | .rst_28H => [0xEF]
  | .ldh_A_mn n => [0xF0, n]
  | .pop_AF => [0xF1]
  | .ld_A_mC => [0xF2]
  | .di => [0xF3]
  | .push_AF => [0xF5]
  | .or_n n => [0xF6, n]
  | .rst_30H => [0xF7]
  | .ld_HL_SPe e => [0xF8, e]
  | .ld_SP_HL => [0xF9]
  | .ld_A_mnn nn => [0xFA, nn.setWidth 8, (nn >>> 8).setWidth 8]
  | .ei => [0xFB]
  | .cp_n n => [0xFE, n]
  | .rst_38H => [0xFF]
  | .rlc_B => [0xCB, 0x00]
  | .rlc_C => [0xCB, 0x01]
  | .rlc_D => [0xCB, 0x02]
  | .rlc_E => [0xCB, 0x03]
  | .rlc_H => [0xCB, 0x04]
  | .rlc_L => [0xCB, 0x05]
  | .rlc_mHL => [0xCB, 0x06]
  | .rlc_A => [0xCB, 0x07]
  | .rrc_B => [0xCB, 0x08]
  | .rrc_C => [0xCB, 0x09]
  | .rrc_D => [0xCB, 0x0A]
  | .rrc_E => [0xCB, 0x0B]
  | .rrc_H => [0xCB, 0x0C]
  | .rrc_L => [0xCB, 0x0D]
  | .rrc_mHL => [0xCB, 0x0E]
  | .rrc_A => [0xCB, 0x0F]
  | .rl_B => [0xCB, 0x10]
  | .rl_C => [0xCB, 0x11]
  | .rl_D => [0xCB, 0x12]
  | .rl_E => [0xCB, 0x13]
  | .rl_H => [0xCB, 0x14]
  | .rl_L => [0xCB, 0x15]
  | .rl_mHL => [0xCB, 0x16]
  | .rl_A => [0xCB, 0x17]
  | .rr_B => [0xCB, 0x18]
  | .rr_C => [0xCB, 0x19]
  | .rr_D => [0xCB, 0x1A]
  | .rr_E => [0xCB, 0x1B]
  | .rr_H => [0xCB, 0x1C]
  | .rr_L => [0xCB, 0x1D]
  | .rr_mHL => [0xCB, 0x1E]
  | .rr_A => [0xCB, 0x1F]
  | .sla_B => [0xCB, 0x20]
  | .sla_C => [0xCB, 0x21]
  | .sla_D => [0xCB, 0x22]
  | .sla_E => [0xCB, 0x23]
  | .sla_H => [0xCB, 0x24]
  | .sla_L => [0xCB, 0x25]
  | .sla_mHL => [0xCB, 0x26]
  | .sla_A => [0xCB, 0x27]
  | .sra_B => [0xCB, 0x28]
  | .sra_C => [0xCB, 0x29]
  | .sra_D => [0xCB, 0x2A]
  | .sra_E => [0xCB, 0x2B]
  | .sra_H => [0xCB, 0x2C]
  | .sra_L => [0xCB, 0x2D]
  | .sra_mHL => [0xCB, 0x2E]
  | .sra_A => [0xCB, 0x2F]
  | .swap_B => [0xCB, 0x30]
  | .swap_C => [0xCB, 0x31]
  | .swap_D => [0xCB, 0x32]
  | .swap_E => [0xCB, 0x33]
  | .swap_H => [0xCB, 0x34]
  | .swap_L => [0xCB, 0x35]
  | .swap_mHL => [0xCB, 0x36]
  | .swap_A => [0xCB, 0x37]
  | .srl_B => [0xCB, 0x38]
  | .srl_C => [0xCB, 0x39]
  | .srl_D => [0xCB, 0x3A]
  | .srl_E => [0xCB, 0x3B]
  | .srl_H => [0xCB, 0x3C]
  | .srl_L => [0xCB, 0x3D]
  | .srl_mHL => [0xCB, 0x3E]
  | .srl_A => [0xCB, 0x3F]
  | .bit_0_B => [0xCB, 0x40]
  | .bit_0_C => [0xCB, 0x41]
  | .bit_0_D => [0xCB, 0x42]
  | .bit_0_E => [0xCB, 0x43]
  | .bit_0_H => [0xCB, 0x44]
  | .bit_0_L => [0xCB, 0x45]
  | .bit_0_mHL => [0xCB, 0x46]
  | .bit_0_A => [0xCB, 0x47]
  | .bit_1_B => [0xCB, 0x48]
  | .bit_1_C => [0xCB, 0x49]
  | .bit_1_D => [0xCB, 0x4A]
  | .bit_1_E => [0xCB, 0x4B]
  | .bit_1_H => [0xCB, 0x4C]
  | .bit_1_L => [0xCB, 0x4D]
  | .bit_1_mHL => [0xCB, 0x4E]
  | .bit_1_A => [0xCB, 0x4F]
  | .bit_2_B => [0xCB, 0x50]
  | .bit_2_C => [0xCB, 0x51]
  | .bit_2_D => [0xCB, 0x52]
  | .bit_2_E => [0xCB, 0x53]
  | .bit_2_H => [0xCB, 0x54]
  | .bit_2_L => [0xCB, 0x55]
  | .bit_2_mHL => [0xCB, 0x56]
  | .bit_2_A => [0xCB, 0x57]
  | .bit_3_B => [0xCB, 0x58]
  | .bit_3_C => [0xCB, 0x59]
  | .bit_3_D => [0xCB, 0x5A]
  | .bit_3_E => [0xCB, 0x5B]
  | .bit_3_H => [0xCB, 0x5C]
  | .bit_3_L => [0xCB, 0x5D]
  | .bit_3_mHL => [0xCB, 0x5E]
  | .bit_3_A => [0xCB, 0x5F]
  | .bit_4_B => [0xCB, 0x60]
  | .bit_4_C => [0xCB, 0x61]
  | .bit_4_D => [0xCB, 0x62]
  | .bit_4_E => [0xCB, 0x63]
  | .bit_4_H => [0xCB, 0x64]
  | .bit_4_L => [0xCB, 0x65]
  | .bit_4_mHL => [0xCB, 0x66]
  | .bit_4_A => [0xCB, 0x67]
  | .bit_5_B => [0xCB, 0x68]
  | .bit_5_C => [0xCB, 0x69]
  | .bit_5_D => [0xCB, 0x6A]
  | .bit_5_E => [0xCB, 0x6B]
  | .bit_5_H => [0xCB, 0x6C]
  | .bit_5_L => [0xCB, 0x6D]
  | .bit_5_mHL => [0xCB, 0x6E]
  | .bit_5_A => [0xCB, 0x6F]
  | .bit_6_B => [0xCB, 0x70]
  | .bit_6_C => [0xCB, 0x71]
  | .bit_6_D => [0xCB, 0x72]
  | .bit_6_E => [0xCB, 0x73]
  | .bit_6_H => [0xCB, 0x74]
  | .bit_6_L => [0xCB, 0x75]
  | .bit_6_mHL => [0xCB, 0x76]
  | .bit_6_A => [0xCB, 0x77]
  | .bit_7_B => [0xCB, 0x78]
  | .bit_7_C => [0xCB, 0x79]
  | .bit_7_D => [0xCB, 0x7A]
  | .bit_7_E => [0xCB, 0x7B]
  | .bit_7_H => [0xCB, 0x7C]
  | .bit_7_L => [0xCB, 0x7D]
  | .bit_7_mHL => [0xCB, 0x7E]
  | .bit_7_A => [0xCB, 0x7F]
  | .res_0_B => [0xCB, 0x80]
  | .res_0_C => [0xCB, 0x81]
  | .res_0_D => [0xCB, 0x82]
  | .res_0_E => [0xCB, 0x83]
  | .res_0_H => [0xCB, 0x84]
  | .res_0_L => [0xCB, 0x85]
  | .res_0_mHL => [0xCB, 0x86]
  | .res_0_A => [0xCB, 0x87]
  | .res_1_B => [0xCB, 0x88]
  | .res_1_C => [0xCB, 0x89]
  | .res_1_D => [0xCB, 0x8A]
  | .res_1_E => [0xCB, 0x8B]
  | .res_1_H => [0xCB, 0x8C]
  | .res_1_L => [0xCB, 0x8D]
  | .res_1_mHL => [0xCB, 0x8E]
  | .res_1_A => [0xCB, 0x8F]
  | .res_2_B => [0xCB, 0x90]
  | .res_2_C => [0xCB, 0x91]
  | .res_2_D => [0xCB, 0x92]
  | .res_2_E => [0xCB, 0x93]
  | .res_2_H => [0xCB, 0x94]
  | .res_2_L => [0xCB, 0x95]
  | .res_2_mHL => [0xCB, 0x96]
  | .res_2_A => [0xCB, 0x97]
  | .res_3_B => [0xCB, 0x98]
  | .res_3_C => [0xCB, 0x99]
  | .res_3_D => [0xCB, 0x9A]
  | .res_3_E => [0xCB, 0x9B]
  | .res_3_H => [0xCB, 0x9C]
  | .res_3_L => [0xCB, 0x9D]
  | .res_3_mHL => [0xCB, 0x9E]
  | .res_3_A => [0xCB, 0x9F]
  | .res_4_B => [0xCB, 0xA0]
  | .res_4_C => [0xCB, 0xA1]
  | .res_4_D => [0xCB, 0xA2]
  | .res_4_E => [0xCB, 0xA3]
  | .res_4_H => [0xCB, 0xA4]
  | .res_4_L => [0xCB, 0xA5]
  | .res_4_mHL => [0xCB, 0xA6]
  | .res_4_A => [0xCB, 0xA7]
  | .res_5_B => [0xCB, 0xA8]
  | .res_5_C => [0xCB, 0xA9]
  | .res_5_D => [0xCB, 0xAA]
  | .res_5_E => [0xCB, 0xAB]
  | .res_5_H => [0xCB, 0xAC]
  | .res_5_L => [0xCB, 0xAD]
  | .res_5_mHL => [0xCB, 0xAE]
  | .res_5_A => [0xCB, 0xAF]
  | .res_6_B => [0xCB, 0xB0]
  | .res_6_C => [0xCB, 0xB1]
  | .res_6_D => [0xCB, 0xB2]
  | .res_6_E => [0xCB, 0xB3]
  | .res_6_H => [0xCB, 0xB4]
  | .res_6_L => [0xCB, 0xB5]
  | .res_6_mHL => [0xCB, 0xB6]
  | .res_6_A => [0xCB, 0xB7]
  | .res_7_B => [0xCB, 0xB8]
  | .res_7_C => [0xCB, 0xB9]
  | .res_7_D => [0xCB, 0xBA]
  | .res_7_E => [0xCB, 0xBB]
  | .res_7_H => [0xCB, 0xBC]
  | .res_7_L => [0xCB, 0xBD]
  | .res_7_mHL => [0xCB, 0xBE]
  | .res_7_A => [0xCB, 0xBF]
  | .set_0_B => [0xCB, 0xC0]
  | .set_0_C => [0xCB, 0xC1]
  | .set_0_D => [0xCB, 0xC2]
  | .set_0_E => [0xCB, 0xC3]
  | .set_0_H => [0xCB, 0xC4]
  | .set_0_L => [0xCB, 0xC5]
  | .set_0_mHL => [0xCB, 0xC6]
  | .set_0_A => [0xCB, 0xC7]
  | .set_1_B => [0xCB, 0xC8]
  | .set_1_C => [0xCB, 0xC9]
  | .set_1_D => [0xCB, 0xCA]
  | .set_1_E => [0xCB, 0xCB]
  | .set_1_H => [0xCB, 0xCC]
  | .set_1_L => [0xCB, 0xCD]
  | .set_1_mHL => [0xCB, 0xCE]
  | .set_1_A => [0xCB, 0xCF]
  | .set_2_B => [0xCB, 0xD0]
  | .set_2_C => [0xCB, 0xD1]
  | .set_2_D => [0xCB, 0xD2]
  | .set_2_E => [0xCB, 0xD3]
  | .set_2_H => [0xCB, 0xD4]
  | .set_2_L => [0xCB, 0xD5]
  | .set_2_mHL => [0xCB, 0xD6]
  | .set_2_A => [0xCB, 0xD7]
  | .set_3_B => [0xCB, 0xD8]
  | .set_3_C => [0xCB, 0xD9]
  | .set_3_D => [0xCB, 0xDA]
  | .set_3_E => [0xCB, 0xDB]
  | .set_3_H => [0xCB, 0xDC]
  | .set_3_L => [0xCB, 0xDD]
  | .set_3_mHL => [0xCB, 0xDE]
  | .set_3_A => [0xCB, 0xDF]
  | .set_4_B => [0xCB, 0xE0]
  | .set_4_C => [0xCB, 0xE1]
  | .set_4_D => [0xCB, 0xE2]
  | .set_4_E => [0xCB, 0xE3]
  | .set_4_H => [0xCB, 0xE4]
  | .set_4_L => [0xCB, 0xE5]
  | .set_4_mHL => [0xCB, 0xE6]
  | .set_4_A => [0xCB, 0xE7]
  | .set_5_B => [0xCB, 0xE8]
  | .set_5_C => [0xCB, 0xE9]
  | .set_5_D => [0xCB, 0xEA]
  | .set_5_E => [0xCB, 0xEB]
  | .set_5_H => [0xCB, 0xEC]
  | .set_5_L => [0xCB, 0xED]
  | .set_5_mHL => [0xCB, 0xEE]
  | .set_5_A => [0xCB, 0xEF]
  | .set_6_B => [0xCB, 0xF0]
  | .set_6_C => [0xCB, 0xF1]
  | .set_6_D => [0xCB, 0xF2]
  | .set_6_E => [0xCB, 0xF3]
  | .set_6_H => [0xCB, 0xF4]
  | .set_6_L => [0xCB, 0xF5]
  | .set_6_mHL => [0xCB, 0xF6]
  | .set_6_A => [0xCB, 0xF7]
  | .set_7_B => [0xCB, 0xF8]
  | .set_7_C => [0xCB, 0xF9]
  | .set_7_D => [0xCB, 0xFA]
  | .set_7_E => [0xCB, 0xFB]
  | .set_7_H => [0xCB, 0xFC]
  | .set_7_L => [0xCB, 0xFD]
  | .set_7_mHL => [0xCB, 0xFE]
  | .set_7_A => [0xCB, 0xFF]
  | .prefixCB => [0xCB]

/-! ## The other columns of the standard table (R100, R117, R120) -/

/-- How many bytes of an instruction are opcode: two on the extended page, else one (R100, R101). -/
def Instr.opcodeBytes (i : Instr) : Nat := if (encode i).head? = some 0xCB then 2 else 1

/-- How many operand bytes follow the opcode (R100). -/
def Instr.operandBytes (i : Instr) : Nat := i.length - i.opcodeBytes

/-- The same operation with the operand bytes `b1` and `b2`, as many of them as it has: what its own opcode byte decodes
to before them. -/
def Instr.withOperands (i : Instr) (b1 b2 : Byte) : Instr :=
  match encode i with
  | [] => i
  | b0 :: _ => if b0 = 0xCB then i else decodeBytes b0 b1 b2

/-- `base_cycles` of a row: what it costs, a conditional one when it is not taken (R117). The undefined opcodes and the
prefix byte cost nothing of their own. -/
def Instr.baseCycles : Instr → Nat
  | .undefined _ | .prefixCB => 0
  | .nop | .inc_B | .dec_B | .rlca | .inc_C | .dec_C
  | .rrca | .stop _ | .inc_D | .dec_D | .rla | .inc_E
  | .dec_E | .rra | .inc_H | .dec_H | .daa | .inc_L
  | .dec_L | .cpl | .scf | .inc_A | .dec_A | .ccf
  | .ld_B_B | .ld_B_C | .ld_B_D | .ld_B_E | .ld_B_H | .ld_B_L
  | .ld_B_A | .ld_C_B | .ld_C_C | .ld_C_D | .ld_C_E | .ld_C_H
  | .ld_C_L | .ld_C_A | .ld_D_B | .ld_D_C | .ld_D_D | .ld_D_E
  | .ld_D_H | .ld_D_L | .ld_D_A | .ld_E_B | .ld_E_C | .ld_E_D
  | .ld_E_E | .ld_E_H | .ld_E_L | .ld_E_A | .ld_H_B | .ld_H_C
  | .ld_H_D | .ld_H_E | .ld_H_H | .ld_H_L | .ld_H_A | .ld_L_B
  | .ld_L_C | .ld_L_D | .ld_L_E | .ld_L_H | .ld_L_L | .ld_L_A
  | .halt | .ld_A_B | .ld_A_C | .ld_A_D | .ld_A_E | .ld_A_H
  | .ld_A_L | .ld_A_A | .add_A_B | .add_A_C | .add_A_D | .add_A_E
  | .add_A_H | .add_A_L | .add_A_A | .adc_A_B | .adc_A_C | .adc_A_D
  | .adc_A_E | .adc_A_H | .adc_A_L | .adc_A_A | .sub_B | .sub_C
  | .sub_D | .sub_E | .sub_H | .sub_L | .sub_A | .sbc_A_B
  | .sbc_A_C | .sbc_A_D | .sbc_A_E | .sbc_A_H | .sbc_A_L | .sbc_A_A
  | .and_B | .and_C | .and_D | .and_E | .and_H | .and_L
  | .and_A | .xor_B | .xor_C | .xor_D | .xor_E | .xor_H
  | .xor_L | .xor_A | .or_B | .or_C | .or_D | .or_E
  | .or_H | .or_L | .or_A | .cp_B | .cp_C | .cp_D
  | .cp_E | .cp_H | .cp_L | .cp_A | .jp_HL | .di
  | .ei => 4
  | .ld_mBC_A | .inc_BC | .ld_B_n _ | .add_HL_BC | .ld_A_mBC | .dec_BC
  | .ld_C_n _ | .ld_mDE_A | .inc_DE | .ld_D_n _ | .add_HL_DE | .ld_A_mDE
  | .dec_DE | .ld_E_n _ | .jr_NZ_e _ | .ld_mHLinc_A | .inc_HL | .ld_H_n _
  | .jr_Z_e _ | .add_HL_HL | .ld_A_mHLinc | .dec_HL | .ld_L_n _ | .jr_NC_e _
  | .ld_mHLdec_A | .inc_SP | .jr_C_e _ | .add_HL_SP | .ld_A_mHLdec | .dec_SP
  | .ld_A_n _ | .ld_B_mHL | .ld_C_mHL | .ld_D_mHL | .ld_E_mHL | .ld_H_mHL
  | .ld_L_mHL | .ld_mHL_B | .ld_mHL_C | .ld_mHL_D | .ld_mHL_E | .ld_mHL_H
  | .ld_mHL_L | .ld_mHL_A | .ld_A_mHL | .add_A_mHL | .adc_A_mHL | .sub_mHL
  | .sbc_A_mHL | .and_mHL | .xor_mHL | .or_mHL | .cp_mHL | .ret_NZ
  | .add_A_n _ | .ret_Z | .adc_A_n _ | .ret_NC | .sub_n _ | .ret_C
  | .sbc_A_n _ | .ld_mC_A | .and_n _ | .xor_n _ | .ld_A_mC | .or_n _
  | .ld_SP_HL | .cp_n _ | .rlc_B | .rlc_C | .rlc_D | .rlc_E
  | .rlc_H | .rlc_L | .rlc_A | .rrc_B | .rrc_C | .rrc_D
  | .rrc_E | .rrc_H | .rrc_L | .rrc_A | .rl_B | .rl_C
  | .rl_D | .rl_E | .rl_H | .rl_L | .rl_A | .rr_B
  | .rr_C | .rr_D | .rr_E | .rr_H | .rr_L | .rr_A
  | .sla_B | .sla_C | .sla_D | .sla_E | .sla_H | .sla_L
  | .sla_A | .sra_B | .sra_C | .sra_D | .sra_E | .sra_H
  | .sra_L | .sra_A | .swap_B | .swap_C | .swap_D | .swap_E
  | .swap_H | .swap_L | .swap_A | .srl_B | .srl_C | .srl_D
  | .srl_E | .srl_H | .srl_L | .srl_A | .bit_0_B | .bit_0_C
  | .bit_0_D | .bit_0_E | .bit_0_H | .bit_0_L | .bit_0_A | .bit_1_B
  | .bit_1_C | .bit_1_D | .bit_1_E | .bit_1_H | .bit_1_L | .bit_1_A
  | .bit_2_B | .bit_2_C | .bit_2_D | .bit_2_E | .bit_2_H | .bit_2_L
  | .bit_2_A | .bit_3_B | .bit_3_C | .bit_3_D | .bit_3_E | .bit_3_H
  | .bit_3_L | .bit_3_A | .bit_4_B | .bit_4_C | .bit_4_D | .bit_4_E
  | .bit_4_H | .bit_4_L | .bit_4_A | .bit_5_B | .bit_5_C | .bit_5_D
  | .bit_5_E | .bit_5_H | .bit_5_L | .bit_5_A | .bit_6_B | .bit_6_C
  | .bit_6_D | .bit_6_E | .bit_6_H | .bit_6_L | .bit_6_A | .bit_7_B
  | .bit_7_C | .bit_7_D | .bit_7_E | .bit_7_H | .bit_7_L | .bit_7_A
  | .res_0_B | .res_0_C | .res_0_D | .res_0_E | .res_0_H | .res_0_L
  | .res_0_A | .res_1_B | .res_1_C | .res_1_D | .res_1_E | .res_1_H
  | .res_1_L | .res_1_A | .res_2_B | .res_2_C | .res_2_D | .res_2_E
  | .res_2_H | .res_2_L | .res_2_A | .res_3_B | .res_3_C | .res_3_D
  | .res_3_E | .res_3_H | .res_3_L | .res_3_A | .res_4_B | .res_4_C
  | .res_4_D | .res_4_E | .res_4_H | .res_4_L | .res_4_A | .res_5_B
  | .res_5_C | .res_5_D | .res_5_E | .res_5_H | .res_5_L | .res_5_A
  | .res_6_B | .res_6_C | .res_6_D | .res_6_E | .res_6_H | .res_6_L
  | .res_6_A | .res_7_B | .res_7_C | .res_7_D | .res_7_E | .res_7_H
  | .res_7_L | .res_7_A | .set_0_B | .set_0_C | .set_0_D | .set_0_E
  | .set_0_H | .set_0_L | .set_0_A | .set_1_B | .set_1_C | .set_1_D
  | .set_1_E | .set_1_H | .set_1_L | .set_1_A | .set_2_B | .set_2_C
  | .set_2_D | .set_2_E | .set_2_H | .set_2_L | .set_2_A | .set_3_B
  | .set_3_C | .set_3_D | .set_3_E | .set_3_H | .set_3_L | .set_3_A
  | .set_4_B | .set_4_C | .set_4_D | .set_4_E | .set_4_H | .set_4_L
  | .set_4_A | .set_5_B | .set_5_C | .set_5_D | .set_5_E | .set_5_H
  | .set_5_L | .set_5_A | .set_6_B | .set_6_C | .set_6_D | .set_6_E
  | .set_6_H | .set_6_L | .set_6_A | .set_7_B | .set_7_C | .set_7_D
  | .set_7_E | .set_7_H | .set_7_L | .set_7_A => 8
  | .ld_BC_nn _ | .ld_DE_nn _ | .jr_e _ | .ld_HL_nn _ | .ld_SP_nn _ | .inc_mHL
  | .dec_mHL | .ld_mHL_n _ | .pop_BC | .jp_NZ_nn _ | .call_NZ_nn _ | .jp_Z_nn _
  | .call_Z_nn _ | .pop_DE | .jp_NC_nn _ | .call_NC_nn _ | .jp_C_nn _ | .call_C_nn _
  | .ldh_mn_A _ | .pop_HL | .ldh_A_mn _ | .pop_AF | .ld_HL_SPe _ | .bit_0_mHL
  | .bit_1_mHL | .bit_2_mHL | .bit_3_mHL | .bit_4_mHL | .bit_5_mHL | .bit_6_mHL
  | .bit_7_mHL => 12
  | .jp_nn _ | .push_BC | .rst_00H | .ret | .rst_08H | .push_DE
  | .rst_10H | .reti | .rst_18H | .push_HL | .rst_20H | .add_SP_e _
  | .ld_mnn_A _ | .rst_28H | .push_AF | .rst_30H | .ld_A_mnn _ | .rst_38H
  | .rlc_mHL | .rrc_mHL | .rl_mHL | .rr_mHL | .sla_mHL | .sra_mHL
  | .swap_mHL | .srl_mHL | .res_0_mHL | .res_1_mHL | .res_2_mHL | .res_3_mHL
  | .res_4_mHL | .res_5_mHL | .res_6_mHL | .res_7_mHL | .set_0_mHL | .set_1_mHL
  | .set_2_mHL | .set_3_mHL | .set_4_mHL | .set_5_mHL | .set_6_mHL | .set_7_mHL => 16
  | .ld_mnn_SP _ => 20
  | .call_nn _ => 24

/-- `extra_cycles` of a row: what a conditional one costs more when it is taken (R117). -/
def Instr.extraCycles : Instr → Nat
  | .jr_NZ_e _ | .jr_Z_e _ | .jr_NC_e _ | .jr_C_e _ | .jp_NZ_nn _ | .jp_Z_nn _
  | .jp_NC_nn _ | .jp_C_nn _ => 4
  | .ret_NZ | .call_NZ_nn _ | .ret_Z | .call_Z_nn _ | .ret_NC | .call_NC_nn _
  | .ret_C | .call_C_nn _ => 12
  | _ => 0

/-! ## The opcode table's own numbering (R120) -/

/-- The bytes of the word `w` of `nbits` bits, in fetch order, with zero bytes after it up to the longest
instruction. Bit 0 of `w` is the least significant bit of the first byte, but a row of the extended page is
numbered by the table as `byte0 * 256 + byte1` (R120): a 16-bit word whose high byte is the prefix 0xCB is read
that way. -/
def tableBytes (nbits w : Nat) : Byte × Byte × Byte :=
  let v := w % 2 ^ nbits
  let lo := BitVec.ofNat 8 v
  let mid := BitVec.ofNat 8 (v / 256)
  let hi := BitVec.ofNat 8 (v / 65536)
  if nbits = 16 ∧ v / 256 = 0xCB then (mid, lo, 0) else (lo, mid, hi)

/-- The instruction the decoder reads from a word of the opcode table. -/
def decodeTableWord (nbits w : Nat) : Option Instr :=
  let b := tableBytes nbits w
  match decode [b.1, b.2.1, b.2.2] with
  | .ok (i, _) => some i
  | .error _ => none

end Sys2Proof
end

