-- ==== Sys2Proof/Machine/Sparse.lean ====
section
/-! DEFINITION. Sparse tables: how memory, the images and the pictures are held. -/

namespace Sys2Proof
namespace Machine

/-! A table lists cells in strictly rising key order. What it does not list reads as a default; a write of that
default removes the cell, so that equal contents are equal data. -/

/-- The listed value at a key. -/
def Sparse.find {α : Type} : List (Nat × α) → Nat → Option α
  | [], _ => none
  | (k, v) :: m, x => if k = x then some v else Sparse.find m x

/-- List a value at a key, in its place. -/
def Sparse.put {α : Type} : List (Nat × α) → Nat → α → List (Nat × α)
  | [], x, v => [(x, v)]
  | (k, w) :: m, x, v =>
    if x < k then (x, v) :: (k, w) :: m
    else if x = k then (x, v) :: m
    else (k, w) :: Sparse.put m x v

/-- List nothing at a key. -/
def Sparse.drop {α : Type} : List (Nat × α) → Nat → List (Nat × α)
  | [], _ => []
  | (k, w) :: m, x => if k = x then Sparse.drop m x else (k, w) :: Sparse.drop m x

/-- The value at a key, listed or not. -/
def Sparse.read {α : Type} (dflt : Nat → α) (m : List (Nat × α)) (x : Nat) : α :=
  (Sparse.find m x).getD (dflt x)

/-- Write a value at a key, keeping the canonical form. -/
def Sparse.write {α : Type} [DecidableEq α] (dflt : Nat → α) (m : List (Nat × α)) (x : Nat) (v : α) :
    List (Nat × α) :=
  if v = dflt x then Sparse.drop m x else Sparse.put m x v

/-- Every key of the table lies above `x`. -/
def Sparse.above {α : Type} (x : Nat) (m : List (Nat × α)) : Bool := m.all (fun c => decide (x < c.1))

/-- The keys rise strictly. -/
def Sparse.rising {α : Type} : List (Nat × α) → Bool
  | [] => true
  | (k, _) :: m => Sparse.above k m && Sparse.rising m

/-- The canonical form: rising keys, and no cell that holds its default. -/
def Sparse.canonical {α : Type} [DecidableEq α] (dflt : Nat → α) (m : List (Nat × α)) : Bool :=
  Sparse.rising m && m.all (fun c => decide (c.2 ≠ dflt c.1))

end Machine
end Sys2Proof
end

