-- ==== Sys2Proof/Machine/Params.lean ====
section
/-! DEFINITION. The named parameters of R8 in one record, each with its default; what `OPTABLE` and `UNDEFINED_OPCODES`
select; the regions that `REGION` bounds; and the backing array that reset leaves. A session takes one record of
parameters and keeps it (R59): it stands in State, beside the two images, and no step writes it. -/

namespace Sys2Proof

open Machine

/-! ## `OPTABLE` (R8, R100, R103) -/

/-- A descriptor: the operation, its cost, and what a taken branch costs more (R117). Its length is the operation's own
(R100). The operation's operand bytes are read when it is fetched, so those written here do not matter. -/
structure Descriptor where
  operation : Instr
  baseCycles : Nat
  extraCycles : Nat
  deriving DecidableEq, Repr

/-- An operation a descriptor can name: not the prefix byte, and not the absence of an entry (R114, R295). -/
def isOperation : Instr → Bool
  | .undefined _ => false
  | .prefixCB => false
  | _ => true

/-- A descriptor of the extended page: its operation has no operand bytes (R100). -/
def Descriptor.extendedOk (d : Descriptor) : Bool := isOperation d.operation && decide (d.operation.operandBytes = 0)

/-- The two descriptor tables. Only the entries that differ from the standard table are listed: what is not listed is as
`decodePrimary`, `decodeExtended`, `Instr.baseCycles` and `Instr.extraCycles` say (DESIGN CHOICE of this form,
notes/assumptions/13.md). The holes of the primary page are `UNDEFINED_OPCODES`; in the extended page `none` is a hole
(R300). -/
structure Optable where
  primary : List (Byte × Descriptor)
  extended : List (Byte × Option Descriptor)
  legal : (primary.all (fun c => isOperation c.2.operation) && extended.all (fun c => c.2.all Descriptor.extendedOk)) = true
  deriving DecidableEq, Repr

/-! ## The record -/

/-- The parameters of R8 but the two images and the reset profile: `ROM` and `BOOT` stand beside this record in State,
and the profile is an argument of reset. -/
structure Params where
  /-- `OPTABLE`. -/
  optable : Optable
  /-- `UNDEFINED_OPCODES`. -/
  undefinedOpcodes : List Byte
  /-- `INT_DISPATCH_CYCLES`. -/
  intDispatchCycles : Nat
  /-- `HALT_TICK_CYCLES`. -/
  haltTickCycles : Nat
  /-- `INT_VECTOR[0..4]`. -/
  intVector : IntVectors
  /-- `REGION` and `IOADDR`. -/
  map : AddressMap
  /-- `INIT_RAM`: the bytes that RAM holds at reset, where they are not 0x00. -/
  initRam : List Host.Cell
  /-- `LCD_RESET_LY`. -/
  lcdResetLy : Byte
  /-- `SHADE_RGB[0..3]`. -/
  shadeRgb : ShadeColours
  deriving DecidableEq, Repr

/-! ## The defaults (R8) -/

/-- The default of `OPTABLE`: the standard table in every entry. -/
def Optable.standard : Optable := ⟨[], [], rfl⟩

/-- The default of `REGION` (R61). -/
def RegionBounds.standard : RegionBounds :=
  { videoRam := ⟨0x8000, 0x9FFF⟩, externalRam := ⟨0xA000, 0xBFFF⟩, workRam := ⟨0xC000, 0xDFFF⟩
    spriteTable := ⟨0xFE00, 0xFE9F⟩, unusable := ⟨0xFEA0, 0xFEFF⟩, io := ⟨0xFF00, 0xFF7F⟩, highRam := ⟨0xFF80, 0xFFFE⟩ }

/-- The default of `IOADDR` (R40). -/
def IoAddresses.standard : IoAddresses :=
  { joyp := 0xFF00, sb := 0xFF01, sc := 0xFF02, divlo := 0xFF03, div := 0xFF04, tima := 0xFF05, tma := 0xFF06
    tac := 0xFF07, iflag := 0xFF0F, lcdc := 0xFF40, stat := 0xFF41, scy := 0xFF42, scx := 0xFF43, ly := 0xFF44
    lyc := 0xFF45, dma := 0xFF46, bgp := 0xFF47, obp0 := 0xFF48, obp1 := 0xFF49, wy := 0xFF4A, wx := 0xFF4B
    bootoff := 0xFF50 }

/-- The default map. -/
def AddressMap.standard : AddressMap := ⟨RegionBounds.standard, IoAddresses.standard, by decide⟩

/-- The default of `INT_VECTOR` (R302). -/
def IntVectors.standard : IntVectors :=
  { vBlank := 0x0040, lcd := 0x0048, timer := 0x0050, serial := 0x0058, input := 0x0060 }

/-- The default of `SHADE_RGB` (R8, R383). -/
def ShadeColours.standard : ShadeColours :=
  { shade0 := ⟨255, 255, 255⟩, shade1 := ⟨170, 170, 170⟩, shade2 := ⟨85, 85, 85⟩, shade3 := ⟨0, 0, 0⟩ }

/-- Every parameter at its default (R8). -/
def Params.standard : Params :=
  { optable := Optable.standard
    undefinedOpcodes := Config.undefinedOpcodes
    intDispatchCycles := 20
    haltTickCycles := 4
    intVector := IntVectors.standard
    map := AddressMap.standard
    initRam := []
    lcdResetLy := 0x00
    shadeRgb := ShadeColours.standard }

/-! ## What the tables select (R103, R320) -/

/-- The bytes are the prefix and a second byte for which the extended page has no entry (R300). -/
def Params.isHole (P : Params) (b0 b1 : Byte) : Bool := decide (b0 = 0xCB ∧ P.optable.extended.lookup b1 = some none)

/-- The instruction at three consecutive bytes: after the prefix byte 0xCB the entry of the extended table for the second
byte; a byte of `UNDEFINED_OPCODES` has none; else the entry of the primary table with its operand bytes (R103). At a hole
of the extended page there is none. -/
def Params.instrOf (P : Params) (b0 b1 b2 : Byte) : Instr :=
  if b0 = 0xCB then
    match P.optable.extended.lookup b1 with
    | some (some d) => d.operation
    | some none => .undefined b0
    | none => decodeExtended b1
  else if P.undefinedOpcodes.contains b0 then .undefined b0
  else
    match P.optable.primary.lookup b0 with
    | some d => d.operation.withOperands b1 b2
    | none => decodePrimary b0 b1 b2

/-- Its length: the opcode byte or bytes, and the operand bytes of the operation (R100). -/
def Params.lengthOf (P : Params) (b0 b1 b2 : Byte) : Nat :=
  if b0 = 0xCB then 2 else 1 + (P.instrOf b0 b1 b2).operandBytes

/-- Its `base_cycles` and `extra_cycles` (R117). -/
def Params.costOf (P : Params) (b0 b1 b2 : Byte) : Nat × Nat :=
  match (if b0 = 0xCB then (P.optable.extended.lookup b1).join else P.optable.primary.lookup b0) with
  | some d => (d.baseCycles, d.extraCycles)
  | none => ((P.instrOf b0 b1 b2).baseCycles, (P.instrOf b0 b1 b2).extraCycles)

/-! ## The regions (R61) -/

/-- The address lies in the range. -/
def AddrRange.contains (r : AddrRange) (x : Nat) : Bool := decide (r.first ≤ x) && decide (x ≤ r.last)

/-- An address of the unusable region (R66). -/
def AddressMap.isUnusable (m : AddressMap) (x : Nat) : Bool := m.bounds.unusable.contains x

/-- An address of the I/O region (R61). -/
def AddressMap.isIo (m : AddressMap) (x : Nat) : Bool := m.bounds.io.contains x

/-- The first address of the sprite attribute table (R61, R78). -/
def AddressMap.spriteFirst (m : AddressMap) : Nat := m.bounds.spriteTable.first

/-- The region of an address, a number up to 0xFFFF: the table of R61, whose rows are a partition. -/
def AddressMap.region (m : AddressMap) (x : Nat) : Region :=
  if x ≤ Config.romLast then .cartridge
  else if Config.echoFirst ≤ x ∧ x ≤ Config.echoLast then .echo
  else if m.isUnusable x then .unusable
  else if m.isIo x then .io
  else if m.bounds.videoRam.contains x then .videoRam
  else if m.bounds.externalRam.contains x then .externalRam
  else if m.bounds.workRam.contains x then .workRam
  else if m.bounds.spriteTable.contains x then .spriteTable
  else if m.bounds.highRam.contains x then .highRam
  else .ie

/-- The address of a plain region: video, external and working RAM, the sprite table, high RAM, IE (R68). -/
def AddressMap.isPlain (m : AddressMap) (x : Nat) : Bool :=
  match m.region x with
  | .videoRam => true
  | .externalRam => true
  | .workRam => true
  | .spriteTable => true
  | .highRam => true
  | .ie => true
  | .cartridge => false
  | .echo => false
  | .unusable => false
  | .io => false

/-- The address is that of a named I/O register (R40). -/
def AddressMap.isNamed (m : AddressMap) (x : Nat) : Bool := IoReg.all.any (fun r => decide (m.addr r = x))

/-- A byte that holds `INIT_RAM` at reset: storage that is no named I/O register (R58). -/
def AddressMap.isInitRam (m : AddressMap) (x : Nat) : Bool :=
  match m.region x with
  | .videoRam => true
  | .externalRam => true
  | .workRam => true
  | .spriteTable => true
  | .highRam => true
  | .io => !m.isNamed x
  | .cartridge => false
  | .echo => false
  | .unusable => false
  | .ie => false

/-! ## The backing array at reset (R58) -/

/-- RAM at reset: `INIT_RAM` in the bytes that hold it, every other byte 0x00. The byte where STAT lies by default is
first made to read 0x00, for a session whose map has something else there. -/
def Params.resetRam (P : Params) : List Host.Cell :=
  P.initRam.foldr (fun c m => if P.map.isInitRam c.1 then Sparse.write Config.resetByte m c.1 c.2 else m)
    (if P.map.isUnusable IoAddresses.standard.stat then []
      else Sparse.write Config.resetByte [] IoAddresses.standard.stat 0x00)

/-- What reset leaves in `Raw`: RAM, the code of VBlank in STAT, `LCD_RESET_LY` in LY, 0x00 in every other I/O register
and in IE. With the default parameters it lists nothing. DESIGN CHOICE (notes/assumptions/4.md): LY is `LCD_RESET_LY` with
both profiles, as R400 and R46 have it, where the `postboot` column of R58 says 0. -/
def Params.resetRaw (P : Params) : List Host.Cell :=
  Sparse.write Config.resetByte (Sparse.write Config.resetByte P.resetRam (P.map.addr .STAT) 0x01) (P.map.addr .LY)
    P.lcdResetLy

end Sys2Proof
end

