-- ==== Sys2Proof/Machine/State.lean ====
section
/-! DEFINITION. The architectural state of the PicoBoy CORE (R20 to R56), its value at reset (R58), and the
reasons a step can stop. State is plain data. Every register has one home here; the memory-mapped registers have
theirs in `raw` (R40). The parameters of a session (R59) stand in it too, so that a state is a whole machine. INVENTORY.md
lists every field with its rule and reset value. -/

namespace Sys2Proof
namespace Machine

/-- The four flags, the source of truth of the packed status byte (R24, R25). -/
structure Flags where
  z : Bool
  n : Bool
  hf : Bool
  cf : Bool
  deriving DecidableEq, Repr

/-- The four modes of the display controller (R36, R350). -/
inductive LcdMode where
  | oamScan
  | pixelTransfer
  | hBlank
  | vBlank
  deriving DecidableEq, Repr

/-- The diagnostic of the fatal exception: the address of the first opcode byte and the opcode byte or bytes
(R28, R300). -/
structure UnimplementedOpcode where
  pc0 : Word
  bytes : List Byte
  deriving DecidableEq, Repr

/-- Bytes by address, as cells with strictly rising addresses; what no cell lists reads as the owner's default. -/
abbrev Memory := List Host.Cell

/-- One line of a picture: its shades from left to right. -/
abbrev PixelRow := List Shade

/-- A picture: the lines that differ from a blank line, by strictly rising line number. -/
abbrev Picture := List (Nat × PixelRow)

/-- A line on which every pixel is shade 0. -/
def blankRow : PixelRow := List.replicate Config.lineWidth 0

/-- The reset profiles (`RESET_PROFILE`, R8, R58). -/
inductive Profile where
  /-- The default: all registers zero, entry at 0x0000 in the boot overlay. -/
  | boot
  /-- The state the physical console's boot program leaves, entry at 0x0100 in the cartridge. -/
  | postboot
  deriving DecidableEq, Repr

/-- The whole machine. -/
structure State where
  /-- The seven 8-bit registers (R20). -/
  a : Byte
  b : Byte
  c : Byte
  d : Byte
  e : Byte
  h : Byte
  l : Byte
  /-- The flags (R24). -/
  flags : Flags
  /-- Stack pointer (R22). -/
  sp : Word
  /-- Program counter (R23). -/
  pc : Word
  /-- Halted by HALT (R26). -/
  halted : Bool
  /-- Stopped by STOP (R27). -/
  stopped : Bool
  /-- The fault latch (R28). -/
  fault : Option UnimplementedOpcode
  /-- The count the last step reported (R13, R320): what the devices advance by. -/
  cycles : Nat
  /-- Interrupt master enable (R29). -/
  ime : Bool
  /-- The enable delay counter, 0, 1 or 2 (R30). -/
  imeDelay : Fin 3
  /-- The backing array `Raw`, which holds every plain region and every I/O register (R32, R40). -/
  raw : Memory
  /-- Boot overlay latch (R33). -/
  bootActive : Bool
  /-- Cartridge bank register, 5 bits, never 0 (R34). -/
  cartBank : BitVec 5
  /-- The parameters the session took (R8, R59); no step writes them. -/
  params : Params
  /-- The cartridge image `ROM` the host supplied, by index (R59, R82); no step writes it. -/
  rom : Memory
  /-- The boot overlay image `BOOT` the host supplied, by address (R59, R67); no step writes it. -/
  boot : Memory
  /-- The last sample of the timer's tap (R35). -/
  lastSample : Bool
  /-- The timer's delayed overflow (R35). -/
  pendingOverflow : Bool
  /-- Display mode (R36). -/
  lcdMode : LcdMode
  /-- Cycles accumulated in the display mode (R36). -/
  lcdAcc : Nat
  /-- The back buffer (R37). -/
  back : Picture
  /-- The published framebuffer (R37). -/
  frame : Picture
  /-- The "frame ready" flag (R37). -/
  frameReady : Bool
  deriving DecidableEq, Repr

/-- The state right after `reset(profile)` in a session with the parameters `P`, with no cartridge and no overlay image
supplied (R58, R400). -/
def State.initial (P : Params) (p : Profile) : State where
  a := match p with | .boot => 0x00 | .postboot => 0x01
  b := match p with | .boot => 0x00 | .postboot => 0x00
  c := match p with | .boot => 0x00 | .postboot => 0x13
  d := match p with | .boot => 0x00 | .postboot => 0x00
  e := match p with | .boot => 0x00 | .postboot => 0xD8
  h := match p with | .boot => 0x00 | .postboot => 0x01
  l := match p with | .boot => 0x00 | .postboot => 0x4D
  flags := match p with
    | .boot => ⟨false, false, false, false⟩
    | .postboot => ⟨true, false, true, true⟩
  sp := match p with | .boot => 0x0000 | .postboot => 0xFFFE
  pc := match p with | .boot => 0x0000 | .postboot => 0x0100
  halted := false
  stopped := false
  fault := none
  cycles := 0
  ime := false
  imeDelay := 0
  raw := P.resetRaw
  bootActive := match p with | .boot => true | .postboot => false
  cartBank := 1
  params := P
  rom := []
  boot := []
  lastSample := false
  pendingOverflow := false
  lcdMode := .vBlank
  lcdAcc := 0
  back := []
  frame := []
  frameReady := false

/-- The same with every parameter at its default (R8): `raw` then lists nothing. -/
def State.resetTo (p : Profile) : State := State.initial Params.standard p

/-- The machine right after reset, with the default profile `boot` (R58, R401). -/
def State.reset : State := State.resetTo .boot

/-! ## Field updates -/

def State.setA (s : State) (v : Byte) : State := { s with a := v }
def State.setB (s : State) (v : Byte) : State := { s with b := v }
def State.setC (s : State) (v : Byte) : State := { s with c := v }
def State.setD (s : State) (v : Byte) : State := { s with d := v }
def State.setE (s : State) (v : Byte) : State := { s with e := v }
def State.setH (s : State) (v : Byte) : State := { s with h := v }
def State.setL (s : State) (v : Byte) : State := { s with l := v }
def State.setFlags (s : State) (v : Flags) : State := { s with flags := v }
def State.setSp (s : State) (v : Word) : State := { s with sp := v }
def State.setPc (s : State) (v : Word) : State := { s with pc := v }
def State.setHalted (s : State) (v : Bool) : State := { s with halted := v }
def State.setStopped (s : State) (v : Bool) : State := { s with stopped := v }
def State.setFault (s : State) (v : Option UnimplementedOpcode) : State := { s with fault := v }
def State.setCycles (s : State) (v : Nat) : State := { s with cycles := v }
def State.setIme (s : State) (v : Bool) : State := { s with ime := v }
def State.setImeDelay (s : State) (v : Fin 3) : State := { s with imeDelay := v }
def State.setRaw (s : State) (v : Memory) : State := { s with raw := v }
def State.setBootActive (s : State) (v : Bool) : State := { s with bootActive := v }
def State.setCartBank (s : State) (v : BitVec 5) : State := { s with cartBank := v }
def State.setParams (s : State) (v : Params) : State := { s with params := v }
def State.setRom (s : State) (v : Memory) : State := { s with rom := v }
def State.setBoot (s : State) (v : Memory) : State := { s with boot := v }
def State.setLastSample (s : State) (v : Bool) : State := { s with lastSample := v }
def State.setPendingOverflow (s : State) (v : Bool) : State := { s with pendingOverflow := v }
def State.setLcdMode (s : State) (v : LcdMode) : State := { s with lcdMode := v }
def State.setLcdAcc (s : State) (v : Nat) : State := { s with lcdAcc := v }
def State.setBack (s : State) (v : Picture) : State := { s with back := v }
def State.setFrame (s : State) (v : Picture) : State := { s with frame := v }
def State.setFrameReady (s : State) (v : Bool) : State := { s with frameReady := v }

/-! ## How a step stops -/

/-- Why no machine step is taken (R322). Both are raised by `step` alone, in a state the spec says is stuck. -/
inductive Fault where
  /-- Raised by `step` when the fault latch is set: the machine is frozen as the faulting step left it, and the
  host reads the diagnostic (R28, R322, R385). Safe: the spec takes no step here. -/
  | unimplementedOpcode (pc0 : Word) (bytes : List Byte)
  /-- Raised by `step` when `stopped` is set: no machine step is taken until the host clears it or resets
  (R27, R322, R386). Safe: the spec takes no step here. -/
  | stopped
  deriving DecidableEq, Repr

/-- Why an instruction is refused. -/
inductive Refusal where
  /-- Raised by `exec` for an instruction that has no meaning in this model yet. Safe: the model stops where the
  hardware goes on. No arm of `exec` raises it. -/
  | notModelled (mnemonic : String)
  deriving DecidableEq, Repr

/-- What a step or a meaning answers. -/
abbrev Result := Host.Outcome State Fault Refusal

end Machine
end Sys2Proof
end

