-- ==== Sys2Proof/Machine/Ops.lean ====
section
/-! DEFINITION. The named operations over memory, the stack, the interrupt controller and the program counter:
byte order, sparse memory, the mapped read and write with their side effects, the cartridge port, the DMA copy,
push and pop, interrupt entry and return, the fatal exception, and the end of an instruction. -/

namespace Sys2Proof
namespace Machine

/-! ## Bytes and words (R9, R21, R84) -/

/-- `hi ++ lo`. -/
def joinBytes (hi lo : Byte) : Word := hi ++ lo

/-- Bits 15..8. -/
def hiByte (v : Word) : Byte := v.extractLsb' 8 8

/-- Bits 7..0. -/
def loByte (v : Word) : Byte := v.extractLsb' 0 8

/-- `sext_8`, widened to 16 bits: the addend of a signed displacement (R9, R111). -/
def sext8 (e : Byte) : Word := e.signExtend 16

/-- The bit `k` of a byte. -/
def bitAt (v : Byte) (k : Nat) : Bool := v.getLsbD k

/-- A byte with its bit `k` set to `x`. -/
def withBit (v : Byte) (k : Nat) (x : Bool) : Byte :=
  if x then v ||| (BitVec.ofNat 8 (2 ^ k)) else v &&& ~~~(BitVec.ofNat 8 (2 ^ k))

/-! ## Raw access (R11, R32, R79) -/

/-- The canonical form of the backing array. -/
def Memory.wf (m : Memory) : Bool := Sparse.canonical Config.resetByte m

/-- `Raw[x]`. -/
def State.rawGet (s : State) (x : Nat) : Byte := Sparse.read Config.resetByte s.raw x

/-- `Raw[x] <- v`. -/
def State.rawSet (s : State) (x : Nat) (v : Byte) : State :=
  s.setRaw (Sparse.write Config.resetByte s.raw x v)

/-- `IOADDR.<name>`, of the session's map (R40). -/
@[simp] abbrev State.addr (s : State) (r : IoReg) : Nat := s.params.map.addr r

/-- `IO.<name>` (R11). -/
def State.ioGet (s : State) (r : IoReg) : Byte := s.rawGet (s.addr r)

/-- `IO.<name> <- v` (R11). -/
def State.ioSet (s : State) (r : IoReg) (v : Byte) : State := s.rawSet (s.addr r) v

/-- `IO.<name>[k]` (R11). -/
def State.ioBit (s : State) (r : IoReg) (k : Nat) : Bool := bitAt (s.ioGet r) k

/-- `IO.<name>[k] <- 1` (R11). -/
def State.raiseBit (s : State) (r : IoReg) (k : Nat) : State := s.ioSet r (withBit (s.ioGet r) k true)

/-- `SYSCNT`, the two bytes at DIV and DIVLO (R35, R51). -/
def State.syscnt (s : State) : Word := joinBytes (s.ioGet .DIV) (s.ioGet .DIVLO)

/-- `SYSCNT <- v`. -/
def State.setSyscnt (s : State) (v : Word) : State := (s.ioSet .DIVLO (loByte v)).ioSet .DIV (hiByte v)

/-- The counter bit that a TAC value selects: `TAP(0) = 9, TAP(1) = 3, TAP(2) = 5, TAP(3) = 7` (R54, R332). -/
def timerTap (tac : Byte) : Nat :=
  match tac.toNat % 4 with
  | 0 => 9 | 1 => 3 | 2 => 5 | _ => 7

/-! ## The cartridge port (R80 to R83) -/

/-- The byte of the cartridge image at an index; 0xFF past its end (R82). -/
def State.romByte (s : State) (i : Nat) : Byte := Sparse.read (fun _ => Config.romPastEnd) s.rom i

/-- `cart_banked` (R83). R83 gives no value for an image too short to hold index 0x0147: DESIGN CHOICE, the index reads as
R82 has every index past the end read, 0xFF, so that such an image counts as banked (notes/assumptions/2.md). -/
def State.cartBanked (s : State) : Bool := decide (s.romByte 0x0147 ≠ 0x00)

/-- The image index an address of the cartridge window reads (R82). -/
def State.cartIndex (s : State) (x : Nat) : Nat :=
  if x ≤ Config.romFixedLast then x else s.cartBank.toNat * 0x4000 + (x - 0x4000)

/-- `CartRead` (R82). -/
def State.cartRead (s : State) (x : Nat) : Byte := s.romByte (s.cartIndex x)

/-- The bank a written byte selects: its low five bits, 0 replaced by 1 (R81). -/
def bankOf (v : Byte) : BitVec 5 :=
  let k := v.extractLsb' 0 5
  if k = 0 then 1 else k

/-- `CartWrite` (R81). -/
def State.cartWrite (s : State) (x : Nat) (v : Byte) : State :=
  if s.cartBanked ∧ 0x2000 ≤ x ∧ x ≤ 0x3FFF then s.setCartBank (bankOf v) else s

/-! ## The mapped read (R63) -/

/-- `BOOT[x]`: the supplied byte, or a free value where the host supplied none (R67, R401). -/
def State.bootByte (s : State) (x : Nat) : Byte :=
  match Sparse.find s.boot x with
  | some v => v
  | none => Config.freeBootByte x

/-- An address of the echo mirror (R65). -/
def isEcho (x : Nat) : Bool := decide (Config.echoFirst ≤ x) && decide (x ≤ Config.echoLast)

/-- The mapped read at an address given as a number (R63). -/
def State.readAt (s : State) (x : Nat) : Byte :=
  if x ≤ Config.bootLast ∧ s.bootActive then s.bootByte x
  else if x ≤ Config.romLast then s.cartRead x
  else if isEcho x then s.rawGet (x - Config.echoOffset)
  else if s.params.map.isUnusable x then 0xFF
  else s.rawGet x

/-- `MemRead(a, 1)` (R63). -/
def State.memRead (s : State) (a : Word) : Byte := s.readAt a.toNat

/-! ## The mapped write (R64, R72, R78) -/

/-- `DmaCopy(v)`: 160 bytes from page `v` to the sprite table, each read through the mapped read, in ascending order
(R78). -/
def State.dmaCopy (s : State) (v : Byte) : State :=
  (List.range Config.dmaLength).foldl
    (fun t i => t.rawSet (t.params.map.spriteFirst + i) (t.readAt (v.toNat * 256 + i))) s

/-- `IoWrite` (R72). -/
def State.ioWrite (s : State) (x : Nat) (v : Byte) : State :=
  if x = s.addr .DIVLO ∨ x = s.addr .DIV then (s.setSyscnt 0).setLastSample false
  else if x = s.addr .TAC then
    (s.rawSet x v).setLastSample (s.syscnt.getLsbD (timerTap v))
  else if x = s.addr .STAT then s.rawSet x ((v &&& 0xF8) ||| (s.rawGet x &&& 0x07))
  else if x = s.addr .LY then s
  else if x = s.addr .DMA then (s.rawSet x v).dmaCopy v
  else if x = s.addr .BOOTOFF then
    (if v ≠ 0 then (s.rawSet x v).setBootActive false else s.rawSet x v)
  else s.rawSet x v

/-- The mapped write at an address given as a number (R64). -/
def State.writeAt (s : State) (x : Nat) (v : Byte) : State :=
  if x ≤ Config.romLast then s.cartWrite x v
  else if isEcho x then s.rawSet (x - Config.echoOffset) v
  else if s.params.map.isUnusable x then s
  else if s.params.map.isIo x then s.ioWrite x v
  else s.rawSet x v

/-- `MemWrite(a, 1, v)` (R64). -/
def State.memWrite (s : State) (a : Word) (v : Byte) : State := s.writeAt a.toNat v

/-! ## The step's cycle count and fetches (R12, R13) -/

/-- `cycles <- n` (R13). -/
def State.charge (s : State) (n : Nat) : State := s.setCycles n

/-- The byte `k` places after `PC`, by the mapped read; addresses wrap (R12, R23, R90). -/
def State.fetchByte (s : State) (k : Nat) : Byte := s.memRead (s.pc + BitVec.ofNat 16 k)

/-! ## The stack (R12, R160) -/

/-- `Push16(v)`: the high byte at `SP - 1`, then the low byte at `SP - 2`. -/
def State.push16 (s : State) (v : Word) : State :=
  let s1 := (s.setSp (s.sp - 1)).memWrite (s.sp - 1) (hiByte v)
  (s1.setSp (s1.sp - 1)).memWrite (s1.sp - 1) (loByte v)

/-- The word at `SP`, low byte first: what `Pop16()` returns. -/
def State.stackTop (s : State) : Word := joinBytes (s.memRead (s.sp + 1)) (s.memRead s.sp)

/-- The state after `Pop16()`. -/
def State.popped (s : State) : State := s.setSp (s.sp + 2)

/-! ## Interrupts (R302 to R312) -/

/-- The five sources, in priority order (R302, R304). -/
inductive IntSource where
  | vBlank
  | lcd
  | timer
  | serial
  | input
  deriving DecidableEq, Repr

/-- The bit of a source in IF and IE (R41, R302). -/
def IntSource.bit : IntSource → Nat
  | .vBlank => 0 | .lcd => 1 | .timer => 2 | .serial => 3 | .input => 4

/-- `INT_VECTOR[i]` (R302). -/
def IntSource.vector (v : IntVectors) : IntSource → Word
  | .vBlank => v.vBlank | .lcd => v.lcd | .timer => v.timer | .serial => v.serial | .input => v.input

/-- Source `i` is serviceable: its bit is set in IF and in IE (R303). -/
def State.serviceable (s : State) (i : IntSource) : Bool :=
  s.ioBit .IF i.bit && s.ioBit .IE i.bit

/-- The serviceable source of lowest index (R304). -/
def State.pendingSource (s : State) : Option IntSource :=
  if s.serviceable .vBlank then some .vBlank
  else if s.serviceable .lcd then some .lcd
  else if s.serviceable .timer then some .timer
  else if s.serviceable .serial then some .serial
  else if s.serviceable .input then some .input
  else none

/-- Interrupt service, the machine's trap entry (R310). -/
def State.serviceInterrupt (s : State) (i : IntSource) : State :=
  let s1 := s.ioSet .IF (withBit (s.ioGet .IF) i.bit false)
  let s2 := ((s1.setIme false).setImeDelay 0).setHalted false
  let s3 := s2.push16 s2.pc
  (s3.setPc (i.vector s.params.intVector)).charge s.params.intDispatchCycles

/-- The return from a handler: `PC` is popped, the master enable is set at once (R280, R311). -/
def State.returnFromInterrupt (s : State) : State :=
  ((s.popped.setPc s.stackTop).setIme true).setImeDelay 0

/-- The fatal exception: the latch records the address of the opcode byte, which `PC` has just passed, and the
bytes; nothing else changes and no cycle count is reported (R300). -/
def State.raiseUnimplemented (s : State) (bytes : List Byte) : State :=
  s.setFault (some ⟨s.pc - 1, bytes⟩)

/-- The fatal exception at a hole of the extended page, before its bytes are fetched: the latch records the address of the
prefix and both bytes. `PC` passes the prefix alone, as R300 and R385 say, though R320 has fetched two bytes (DEDUCED,
notes/assumptions/19.md). -/
def State.raiseHole (s : State) (b0 b1 : Byte) : State := (s.setPc (s.pc + 1)).raiseUnimplemented [b0, b1]

/-- The end of every executed instruction: the enable delay counts down, and reaching 0 sets the master enable
(R312). -/
def State.endInstruction (s : State) : State :=
  match s.imeDelay with
  | 0 => s
  | 1 => (s.setImeDelay 0).setIme true
  | 2 => s.setImeDelay 1

/-- A step taken while halted (R320). -/
def State.haltTick (s : State) : State := s.charge s.params.haltTickCycles

/-! ## Placing an instruction where the next step fetches it -/

/-- Put the byte `v` where the mapped read of address `x` finds it: in the overlay image, the cartridge image or
the backing array. The unusable region has no place for a byte (R66). -/
def State.placeByte (s : State) (x : Nat) (v : Byte) : State :=
  if x ≤ Config.bootLast ∧ s.bootActive then s.setBoot (Sparse.put s.boot x v)
  else if x ≤ Config.romLast then
    s.setRom (Sparse.write (fun _ => Config.romPastEnd) s.rom (s.cartIndex x) v)
  else if isEcho x then s.rawSet (x - Config.echoOffset) v
  else if s.params.map.isUnusable x then s
  else s.rawSet x v

/-- Make the next step an instruction fetch: no fault, not stopped, not halted, and no interrupt serviced first. -/
def State.readyToFetch (s : State) : State :=
  let t := ((s.setFault none).setStopped false).setHalted false
  if t.pendingSource.isSome then t.setIme false else t

/-- Three bytes stored at `PC` and the two addresses after it. -/
def State.placeAtPc (s : State) (b0 b1 b2 : Byte) : State :=
  let s1 := s.placeByte s.pc.toNat b0
  let s2 := s1.placeByte (s.pc + 1).toNat b1
  (s2.placeByte (s.pc + 2).toNat b2).readyToFetch

end Machine
end Sys2Proof
end

