-- ==== Sys2Proof/Machine/Flags.lean ====
section
/-! DEFINITION. The flag computations: the packed status byte (R25), the 8-bit arithmetic and logic (R175, R188 to
R207), the 16-bit arithmetic (R164, R221, R224), and the rotates, shifts and bit tests (R230 to R256). Operands are
taken to numbers, the result is computed exactly, and the flags are tests on the exact result. -/

namespace Sys2Proof
namespace Machine

def Bool.num (x : Bool) : Nat := if x then 1 else 0

/-! ## The packed status byte (R25) -/

/-- `F = Z ++ N ++ Hf ++ Cf ++ 0b0000`. -/
def Flags.pack (f : Flags) : Byte :=
  BitVec.ofNat 8 (128 * Bool.num f.z + 64 * Bool.num f.n + 32 * Bool.num f.hf + 16 * Bool.num f.cf)

/-- The flags of a status byte; bits 3..0 are discarded. -/
def Flags.unpack (v : Byte) : Flags := ⟨bitAt v 7, bitAt v 6, bitAt v 5, bitAt v 4⟩

/-! ## 8-bit arithmetic (R175) -/

/-- `add8(a, b, c)`. -/
def add8 (a b : Byte) (c : Bool) : Byte × Flags :=
  let sum := a.toNat + b.toNat + Bool.num c
  let r := BitVec.ofNat 8 sum
  (r, { z := decide (r = 0), n := false,
        hf := decide (a.toNat % 16 + b.toNat % 16 + Bool.num c > 0xF),
        cf := decide (sum > 0xFF) })

/-- `sub8(a, b, c)`. -/
def sub8 (a b : Byte) (c : Bool) : Byte × Flags :=
  let r := BitVec.ofInt 8 ((a.toNat : Int) - b.toNat - Bool.num c)
  (r, { z := decide (r = 0), n := true,
        hf := decide (a.toNat % 16 < b.toNat % 16 + Bool.num c),
        cf := decide (a.toNat < b.toNat + Bool.num c) })

/-- The result and flags of AND (R188). -/
def and8 (a b : Byte) : Byte × Flags :=
  (a &&& b, { z := decide (a &&& b = 0), n := false, hf := true, cf := false })

/-- The result and flags of XOR (R191). -/
def xor8 (a b : Byte) : Byte × Flags :=
  (a ^^^ b, { z := decide (a ^^^ b = 0), n := false, hf := false, cf := false })

/-- The result and flags of OR (R194). -/
def or8 (a b : Byte) : Byte × Flags :=
  (a ||| b, { z := decide (a ||| b = 0), n := false, hf := false, cf := false })

/-- What the accumulator and the flags become: the accumulator is the first operand of every operation, and
compare leaves it as it is (R176 to R199). -/
def aluResult (op : AluOp) (a v : Byte) (cf : Bool) : Byte × Flags :=
  match op with
  | .add => add8 a v false
  | .adc => add8 a v cf
  | .sub => sub8 a v false
  | .sbc => sub8 a v cf
  | .and => and8 a v
  | .xor => xor8 a v
  | .or => or8 a v
  | .cp => (a, (sub8 a v false).2)

/-- The flags of an 8-bit increment of `old`; Cf is kept (R200). -/
def incFlags (old : Byte) (f : Flags) : Flags :=
  { f with z := decide (old + 1 = 0), n := false, hf := decide (old.toNat % 16 = 0xF) }

/-- The flags of an 8-bit decrement of `old`; Cf is kept (R202). -/
def decFlags (old : Byte) (f : Flags) : Flags :=
  { f with z := decide (old - 1 = 0), n := true, hf := decide (old.toNat % 16 = 0x0) }

/-- Whether DAA applies 0x60 after an addition (R204). -/
def daaHigh (a : Byte) (f : Flags) : Bool := f.cf || decide (a.toNat > 0x99)

/-- Whether DAA applies 0x06 after an addition (R204). -/
def daaLow (a : Byte) (f : Flags) : Bool := f.hf || decide (a.toNat % 16 > 0x9)

/-- The decimal adjust of the accumulator (R204). -/
def daa8 (a : Byte) (f : Flags) : Byte × Flags :=
  let r : Byte :=
    if f.n then
      a - (if f.cf then 0x60 else 0) - (if f.hf then 0x06 else 0)
    else
      a + (if daaHigh a f then 0x60 else 0) + (if daaLow a f then 0x06 else 0)
  let c := if f.n then f.cf else daaHigh a f
  (r, { f with z := decide (r = 0), hf := false, cf := c })

/-- The flags of CPL (R205). -/
def cplFlags (f : Flags) : Flags := { f with n := true, hf := true }

/-- The flags of SCF (R206). -/
def scfFlags (f : Flags) : Flags := { f with n := false, hf := false, cf := true }

/-- The flags of CCF (R207). -/
def ccfFlags (f : Flags) : Flags := { f with n := false, hf := false, cf := !f.cf }

/-! ## 16-bit arithmetic -/

/-- The flags of `ADD HL,rr`; Z is kept (R221). -/
def add16Flags (a b : Word) (f : Flags) : Flags :=
  { f with n := false,
           hf := decide (a.toNat % 0x1000 + b.toNat % 0x1000 > 0xFFF),
           cf := decide (a.toNat + b.toNat > 0xFFFF) }

/-- The flags of `ADD SP,e` and `LD HL,SP+e`: the carries of the unsigned addition of the low byte of SP and the
raw operand byte (R164, R224). -/
def spAddFlags (sp : Word) (e : Byte) : Flags :=
  { z := false, n := false,
    hf := decide (sp.toNat % 16 + e.toNat % 16 > 0xF),
    cf := decide (sp.toNat % 256 + e.toNat > 0xFF) }

/-! ## Rotates and shifts (R230) -/

/-- The shifted byte (R235 to R249). -/
def shiftByte (op : ShiftOp) (v : Byte) (cf : Bool) : Byte :=
  match op with
  | .rlc => v.extractLsb' 0 7 ++ v.extractLsb' 7 1
  | .rrc => v.extractLsb' 0 1 ++ v.extractLsb' 1 7
  | .rl => v.extractLsb' 0 7 ++ BitVec.ofBool cf
  | .rr => BitVec.ofBool cf ++ v.extractLsb' 1 7
  | .sla => v.extractLsb' 0 7 ++ 0#1
  | .sra => v.extractLsb' 7 1 ++ v.extractLsb' 1 7
  | .swap => v.extractLsb' 0 4 ++ v.extractLsb' 4 4
  | .srl => 0#1 ++ v.extractLsb' 1 7

/-- The bit moved out; SWAP moves none and clears Cf (R230). -/
def shiftCarry (op : ShiftOp) (v : Byte) : Bool :=
  match op with
  | .rlc | .rl | .sla => bitAt v 7
  | .rrc | .rr | .sra | .srl => bitAt v 0
  | .swap => false

/-- The flags of an extended-page rotate or shift (R230). -/
def shiftFlags (op : ShiftOp) (v : Byte) (cf : Bool) : Flags :=
  { z := decide (shiftByte op v cf = 0), n := false, hf := false, cf := shiftCarry op v }

/-- The flags of the one-byte accumulator rotates: Z is 0 even when the result is zero (R230). -/
def accShiftFlags (op : ShiftOp) (v : Byte) : Flags :=
  { z := false, n := false, hf := false, cf := shiftCarry op v }

/-- The flags of BIT; Cf is kept (R251). -/
def bitFlags (b : Octal) (v : Byte) (f : Flags) : Flags :=
  { f with z := !(bitAt v b.toNat), n := false, hf := true }

/-- The byte RES writes (R253). -/
def resByte (b : Octal) (v : Byte) : Byte := withBit v b.toNat false

/-- The byte SET writes (R255). -/
def setByte (b : Octal) (v : Byte) : Byte := withBit v b.toNat true

end Machine
end Sys2Proof
end

