-- ==== Sys2Proof/Machine/Operands.lean ====
section
/-! DEFINITION. The operand forms: registers, pairs and the stack pointer, memory through `HL`, `BC`, `DE`, an absolute
address and the high page, and the branch conditions (R20 to R25, R104 to R107, R111). -/

namespace Sys2Proof
namespace Machine

/-- Read an 8-bit register (R20). -/
def State.getReg8 (s : State) : Reg8 → Byte
  | .A => s.a | .B => s.b | .C => s.c | .D => s.d | .E => s.e | .H => s.h | .L => s.l

/-- Write an 8-bit register (R20). -/
def State.setReg8 (s : State) (r : Reg8) (v : Byte) : State :=
  match r with
  | .A => s.setA v | .B => s.setB v | .C => s.setC v | .D => s.setD v
  | .E => s.setE v | .H => s.setH v | .L => s.setL v

/-- Read a pair: the first-named register is bits 15..8 (R21). -/
def State.getPair (s : State) : Pair → Word
  | .BC => joinBytes s.b s.c
  | .DE => joinBytes s.d s.e
  | .HL => joinBytes s.h s.l

/-- Write a pair: both halves at once (R21). -/
def State.setPair (s : State) (p : Pair) (v : Word) : State :=
  match p with
  | .BC => (s.setB (hiByte v)).setC (loByte v)
  | .DE => (s.setD (hiByte v)).setE (loByte v)
  | .HL => (s.setH (hiByte v)).setL (loByte v)

/-- `HL`. -/
def State.hl (s : State) : Word := s.getPair .HL

/-- Read a 16-bit operand (R105). -/
def State.getReg16 (s : State) : Reg16 → Word
  | .BC => s.getPair .BC
  | .DE => s.getPair .DE
  | .HL => s.getPair .HL
  | .SP => s.sp

/-- Write a 16-bit operand (R105). -/
def State.setReg16 (s : State) (r : Reg16) (v : Word) : State :=
  match r with
  | .BC => s.setPair .BC v
  | .DE => s.setPair .DE v
  | .HL => s.setPair .HL v
  | .SP => s.setSp v

/-- `AF`, which exists for PUSH AF and POP AF only (R25). -/
def State.af (s : State) : Word := joinBytes s.a s.flags.pack

/-- `AF <- v`: bits 3..0 are discarded (R25, R168). -/
def State.setAf (s : State) (v : Word) : State := (s.setA (hiByte v)).setFlags (Flags.unpack (loByte v))

/-- The high-page address `0xFF00 + n` (R111). -/
def highPage (n : Byte) : Word := joinBytes 0xFF n

/-- `MemRead(HL, 1)` (R104). -/
def State.readHl (s : State) : Byte := s.memRead s.hl

/-- `MemWrite(HL, 1, v)` (R104). -/
def State.writeHl (s : State) (v : Byte) : State := s.memWrite s.hl v

/-- A branch condition, read from the flags (R107). -/
def State.holds (s : State) : Cond → Bool
  | .NZ => !s.flags.z
  | .Z => s.flags.z
  | .NC => !s.flags.cf
  | .C => s.flags.cf

end Machine
end Sys2Proof
end

