-- ==== Sys2Proof/Machine/Alu16.lean ====
section
/-! DEFINITION. The 16-bit arithmetic (R220 to R224). One definition for each row of the opcode table. -/

namespace Sys2Proof
namespace Machine

/-! ## The shared operations -/

/-- `ADD HL,rr` (R221). -/
def State.addHl (s : State) (r : Reg16) : State :=
  ((s.setPair .HL (s.hl + s.getReg16 r)).setFlags (add16Flags s.hl (s.getReg16 r) s.flags)).charge 8

/-- `INC rr` (R222). -/
def State.incPair (s : State) (r : Reg16) : State := (s.setReg16 r (s.getReg16 r + 1)).charge 8

/-- `DEC rr` (R223). -/
def State.decPair (s : State) (r : Reg16) : State := (s.setReg16 r (s.getReg16 r - 1)).charge 8

/-- `ADD SP,e` (R224). -/
def State.addSpImm (s : State) (e : Byte) : State :=
  ((s.setSp (s.sp + sext8 e)).setFlags (spAddFlags s.sp e)).charge 16

/-! ## One meaning for each row -/

/-- `INC BC` (R222). -/
def execInc_BC (s : State) : Result := .next (s.incPair .BC)
/-- `ADD HL,BC` (R221). -/
def execAdd_HL_BC (s : State) : Result := .next (s.addHl .BC)
/-- `DEC BC` (R223). -/
def execDec_BC (s : State) : Result := .next (s.decPair .BC)
/-- `INC DE` (R222). -/
def execInc_DE (s : State) : Result := .next (s.incPair .DE)
/-- `ADD HL,DE` (R221). -/
def execAdd_HL_DE (s : State) : Result := .next (s.addHl .DE)
/-- `DEC DE` (R223). -/
def execDec_DE (s : State) : Result := .next (s.decPair .DE)
/-- `INC HL` (R222). -/
def execInc_HL (s : State) : Result := .next (s.incPair .HL)
/-- `ADD HL,HL` (R221). -/
def execAdd_HL_HL (s : State) : Result := .next (s.addHl .HL)
/-- `DEC HL` (R223). -/
def execDec_HL (s : State) : Result := .next (s.decPair .HL)
/-- `INC SP` (R222). -/
def execInc_SP (s : State) : Result := .next (s.incPair .SP)
/-- `ADD HL,SP` (R221). -/
def execAdd_HL_SP (s : State) : Result := .next (s.addHl .SP)
/-- `DEC SP` (R223). -/
def execDec_SP (s : State) : Result := .next (s.decPair .SP)
/-- `ADD SP,e` (R224). -/
def execAdd_SP_e (e : Byte) (s : State) : Result := .next (s.addSpImm e)

end Machine
end Sys2Proof
end

