-- ==== Sys2Proof/Machine/Alu8.lean ====
section
/-! DEFINITION. The 8-bit arithmetic and logic (R175 to R208). One definition for each row of the opcode table. -/

namespace Sys2Proof
namespace Machine

/-! ## The shared operations -/

/-- An accumulator operation on the value `v`: what `A` and the flags become (R175 to R199). -/
def State.alu (s : State) (op : AluOp) (v : Byte) : State :=
  (s.setA (aluResult op s.a v s.flags.cf).1).setFlags (aluResult op s.a v s.flags.cf).2

/-- The register forms. -/
def State.aluReg (s : State) (op : AluOp) (r : Reg8) : State := (s.alu op (s.getReg8 r)).charge 4

/-- The `(HL)` forms. -/
def State.aluMem (s : State) (op : AluOp) : State := (s.alu op s.readHl).charge 8

/-- The immediate forms. -/
def State.aluImm (s : State) (op : AluOp) (n : Byte) : State := (s.alu op n).charge 8

/-- `INC r` (R200). -/
def State.incReg (s : State) (r : Reg8) : State :=
  ((s.setReg8 r (s.getReg8 r + 1)).setFlags (incFlags (s.getReg8 r) s.flags)).charge 4

/-- `INC (HL)` (R201). -/
def State.incMem (s : State) : State :=
  ((s.writeHl (s.readHl + 1)).setFlags (incFlags s.readHl s.flags)).charge 12

/-- `DEC r` (R202). -/
def State.decReg (s : State) (r : Reg8) : State :=
  ((s.setReg8 r (s.getReg8 r - 1)).setFlags (decFlags (s.getReg8 r) s.flags)).charge 4

/-- `DEC (HL)` (R203). -/
def State.decMem (s : State) : State :=
  ((s.writeHl (s.readHl - 1)).setFlags (decFlags s.readHl s.flags)).charge 12

/-- `DAA` (R204). -/
def State.decimalAdjust (s : State) : State :=
  ((s.setA (daa8 s.a s.flags).1).setFlags (daa8 s.a s.flags).2).charge 4

/-- `CPL` (R205). -/
def State.complement (s : State) : State := ((s.setA (~~~s.a)).setFlags (cplFlags s.flags)).charge 4

/-- `SCF` (R206). -/
def State.setCarry (s : State) : State := (s.setFlags (scfFlags s.flags)).charge 4

/-- `CCF` (R207). -/
def State.toggleCarry (s : State) : State := (s.setFlags (ccfFlags s.flags)).charge 4

/-! ## One meaning for each row -/

/-- `INC B` (R200). -/
def execInc_B (s : State) : Result := .next (s.incReg .B)
/-- `DEC B` (R202). -/
def execDec_B (s : State) : Result := .next (s.decReg .B)
/-- `INC C` (R200). -/
def execInc_C (s : State) : Result := .next (s.incReg .C)
/-- `DEC C` (R202). -/
def execDec_C (s : State) : Result := .next (s.decReg .C)
/-- `INC D` (R200). -/
def execInc_D (s : State) : Result := .next (s.incReg .D)
/-- `DEC D` (R202). -/
def execDec_D (s : State) : Result := .next (s.decReg .D)
/-- `INC E` (R200). -/
def execInc_E (s : State) : Result := .next (s.incReg .E)
/-- `DEC E` (R202). -/
def execDec_E (s : State) : Result := .next (s.decReg .E)
/-- `INC H` (R200). -/
def execInc_H (s : State) : Result := .next (s.incReg .H)
/-- `DEC H` (R202). -/
def execDec_H (s : State) : Result := .next (s.decReg .H)
/-- `DAA` (R204). -/
def execDaa (s : State) : Result := .next (s.decimalAdjust)
/-- `INC L` (R200). -/
def execInc_L (s : State) : Result := .next (s.incReg .L)
/-- `DEC L` (R202). -/
def execDec_L (s : State) : Result := .next (s.decReg .L)
/-- `CPL` (R205). -/
def execCpl (s : State) : Result := .next (s.complement)
/-- `INC (HL)` (R201). -/
def execInc_mHL (s : State) : Result := .next (s.incMem)
/-- `DEC (HL)` (R203). -/
def execDec_mHL (s : State) : Result := .next (s.decMem)
/-- `SCF` (R206). -/
def execScf (s : State) : Result := .next (s.setCarry)
/-- `INC A` (R200). -/
def execInc_A (s : State) : Result := .next (s.incReg .A)
/-- `DEC A` (R202). -/
def execDec_A (s : State) : Result := .next (s.decReg .A)
/-- `CCF` (R207). -/
def execCcf (s : State) : Result := .next (s.toggleCarry)
/-- `ADD A,B` (R176). -/
def execAdd_A_B (s : State) : Result := .next (s.aluReg .add .B)
/-- `ADD A,C` (R176). -/
def execAdd_A_C (s : State) : Result := .next (s.aluReg .add .C)
/-- `ADD A,D` (R176). -/
def execAdd_A_D (s : State) : Result := .next (s.aluReg .add .D)
/-- `ADD A,E` (R176). -/
def execAdd_A_E (s : State) : Result := .next (s.aluReg .add .E)
/-- `ADD A,H` (R176). -/
def execAdd_A_H (s : State) : Result := .next (s.aluReg .add .H)
/-- `ADD A,L` (R176). -/
def execAdd_A_L (s : State) : Result := .next (s.aluReg .add .L)
/-- `ADD A,(HL)` (R177). -/
def execAdd_A_mHL (s : State) : Result := .next (s.aluMem .add)
/-- `ADD A,A` (R176). -/
def execAdd_A_A (s : State) : Result := .next (s.aluReg .add .A)
/-- `ADC A,B` (R179). -/
def execAdc_A_B (s : State) : Result := .next (s.aluReg .adc .B)
/-- `ADC A,C` (R179). -/
def execAdc_A_C (s : State) : Result := .next (s.aluReg .adc .C)
/-- `ADC A,D` (R179). -/
def execAdc_A_D (s : State) : Result := .next (s.aluReg .adc .D)
/-- `ADC A,E` (R179). -/
def execAdc_A_E (s : State) : Result := .next (s.aluReg .adc .E)
/-- `ADC A,H` (R179). -/
def execAdc_A_H (s : State) : Result := .next (s.aluReg .adc .H)
/-- `ADC A,L` (R179). -/
def execAdc_A_L (s : State) : Result := .next (s.aluReg .adc .L)
/-- `ADC A,(HL)` (R180). -/
def execAdc_A_mHL (s : State) : Result := .next (s.aluMem .adc)
/-- `ADC A,A` (R179). -/
def execAdc_A_A (s : State) : Result := .next (s.aluReg .adc .A)
/-- `SUB B` (R182). -/
def execSub_B (s : State) : Result := .next (s.aluReg .sub .B)
/-- `SUB C` (R182). -/
def execSub_C (s : State) : Result := .next (s.aluReg .sub .C)
/-- `SUB D` (R182). -/
def execSub_D (s : State) : Result := .next (s.aluReg .sub .D)
/-- `SUB E` (R182). -/
def execSub_E (s : State) : Result := .next (s.aluReg .sub .E)
/-- `SUB H` (R182). -/
def execSub_H (s : State) : Result := .next (s.aluReg .sub .H)
/-- `SUB L` (R182). -/
def execSub_L (s : State) : Result := .next (s.aluReg .sub .L)
/-- `SUB (HL)` (R183). -/
def execSub_mHL (s : State) : Result := .next (s.aluMem .sub)
/-- `SUB A` (R182). -/
def execSub_A (s : State) : Result := .next (s.aluReg .sub .A)
/-- `SBC A,B` (R185). -/
def execSbc_A_B (s : State) : Result := .next (s.aluReg .sbc .B)
/-- `SBC A,C` (R185). -/
def execSbc_A_C (s : State) : Result := .next (s.aluReg .sbc .C)
/-- `SBC A,D` (R185). -/
def execSbc_A_D (s : State) : Result := .next (s.aluReg .sbc .D)
/-- `SBC A,E` (R185). -/
def execSbc_A_E (s : State) : Result := .next (s.aluReg .sbc .E)
/-- `SBC A,H` (R185). -/
def execSbc_A_H (s : State) : Result := .next (s.aluReg .sbc .H)
/-- `SBC A,L` (R185). -/
def execSbc_A_L (s : State) : Result := .next (s.aluReg .sbc .L)
/-- `SBC A,(HL)` (R186). -/
def execSbc_A_mHL (s : State) : Result := .next (s.aluMem .sbc)
/-- `SBC A,A` (R185). -/
def execSbc_A_A (s : State) : Result := .next (s.aluReg .sbc .A)
/-- `AND B` (R188). -/
def execAnd_B (s : State) : Result := .next (s.aluReg .and .B)
/-- `AND C` (R188). -/
def execAnd_C (s : State) : Result := .next (s.aluReg .and .C)
/-- `AND D` (R188). -/
def execAnd_D (s : State) : Result := .next (s.aluReg .and .D)
/-- `AND E` (R188). -/
def execAnd_E (s : State) : Result := .next (s.aluReg .and .E)
/-- `AND H` (R188). -/
def execAnd_H (s : State) : Result := .next (s.aluReg .and .H)
/-- `AND L` (R188). -/
def execAnd_L (s : State) : Result := .next (s.aluReg .and .L)
/-- `AND (HL)` (R189). -/
def execAnd_mHL (s : State) : Result := .next (s.aluMem .and)
/-- `AND A` (R188). -/
def execAnd_A (s : State) : Result := .next (s.aluReg .and .A)
/-- `XOR B` (R191). -/
def execXor_B (s : State) : Result := .next (s.aluReg .xor .B)
/-- `XOR C` (R191). -/
def execXor_C (s : State) : Result := .next (s.aluReg .xor .C)
/-- `XOR D` (R191). -/
def execXor_D (s : State) : Result := .next (s.aluReg .xor .D)
/-- `XOR E` (R191). -/
def execXor_E (s : State) : Result := .next (s.aluReg .xor .E)
/-- `XOR H` (R191). -/
def execXor_H (s : State) : Result := .next (s.aluReg .xor .H)
/-- `XOR L` (R191). -/
def execXor_L (s : State) : Result := .next (s.aluReg .xor .L)
/-- `XOR (HL)` (R192). -/
def execXor_mHL (s : State) : Result := .next (s.aluMem .xor)
/-- `XOR A` (R191). -/
def execXor_A (s : State) : Result := .next (s.aluReg .xor .A)
/-- `OR B` (R194). -/
def execOr_B (s : State) : Result := .next (s.aluReg .or .B)
/-- `OR C` (R194). -/
def execOr_C (s : State) : Result := .next (s.aluReg .or .C)
/-- `OR D` (R194). -/
def execOr_D (s : State) : Result := .next (s.aluReg .or .D)
/-- `OR E` (R194). -/
def execOr_E (s : State) : Result := .next (s.aluReg .or .E)
/-- `OR H` (R194). -/
def execOr_H (s : State) : Result := .next (s.aluReg .or .H)
/-- `OR L` (R194). -/
def execOr_L (s : State) : Result := .next (s.aluReg .or .L)
/-- `OR (HL)` (R195). -/
def execOr_mHL (s : State) : Result := .next (s.aluMem .or)
/-- `OR A` (R194). -/
def execOr_A (s : State) : Result := .next (s.aluReg .or .A)
/-- `CP B` (R197). -/
def execCp_B (s : State) : Result := .next (s.aluReg .cp .B)
/-- `CP C` (R197). -/
def execCp_C (s : State) : Result := .next (s.aluReg .cp .C)
/-- `CP D` (R197). -/
def execCp_D (s : State) : Result := .next (s.aluReg .cp .D)
/-- `CP E` (R197). -/
def execCp_E (s : State) : Result := .next (s.aluReg .cp .E)
/-- `CP H` (R197). -/
def execCp_H (s : State) : Result := .next (s.aluReg .cp .H)
/-- `CP L` (R197). -/
def execCp_L (s : State) : Result := .next (s.aluReg .cp .L)
/-- `CP (HL)` (R198). -/
def execCp_mHL (s : State) : Result := .next (s.aluMem .cp)
/-- `CP A` (R197). -/
def execCp_A (s : State) : Result := .next (s.aluReg .cp .A)
/-- `ADD A,n` (R178). -/
def execAdd_A_n (n : Byte) (s : State) : Result := .next (s.aluImm .add n)
/-- `ADC A,n` (R181). -/
def execAdc_A_n (n : Byte) (s : State) : Result := .next (s.aluImm .adc n)
/-- `SUB n` (R184). -/
def execSub_n (n : Byte) (s : State) : Result := .next (s.aluImm .sub n)
/-- `SBC A,n` (R187). -/
def execSbc_A_n (n : Byte) (s : State) : Result := .next (s.aluImm .sbc n)
/-- `AND n` (R190). -/
def execAnd_n (n : Byte) (s : State) : Result := .next (s.aluImm .and n)
/-- `XOR n` (R193). -/
def execXor_n (n : Byte) (s : State) : Result := .next (s.aluImm .xor n)
/-- `OR n` (R196). -/
def execOr_n (n : Byte) (s : State) : Result := .next (s.aluImm .or n)
/-- `CP n` (R199). -/
def execCp_n (n : Byte) (s : State) : Result := .next (s.aluImm .cp n)

end Machine
end Sys2Proof
end

