-- ==== Sys2Proof/Machine/Control.lean ====
section
/-! DEFINITION. The jumps, calls, returns and restarts (R270 to R281). `PC` is already the address of the next instruction in sequence when an operation is applied. One definition for each row of the opcode table. -/

namespace Sys2Proof
namespace Machine

/-! ## The shared operations -/

/-- `JP nn` (R271). -/
def State.jump (s : State) (nn : Word) : State := (s.setPc nn).charge 16

/-- `JP cc,nn` (R272). -/
def State.jumpIf (s : State) (c : Cond) (nn : Word) : State :=
  if s.holds c then (s.setPc nn).charge 16 else s.charge 12

/-- `JP HL` (R273). -/
def State.jumpHl (s : State) : State := (s.setPc s.hl).charge 4

/-- `JR e` (R274). -/
def State.jumpRel (s : State) (e : Byte) : State := (s.setPc (s.pc + sext8 e)).charge 12

/-- `JR cc,e` (R275). -/
def State.jumpRelIf (s : State) (c : Cond) (e : Byte) : State :=
  if s.holds c then (s.setPc (s.pc + sext8 e)).charge 12 else s.charge 8

/-- `CALL nn` (R276). -/
def State.call (s : State) (nn : Word) : State := ((s.push16 s.pc).setPc nn).charge 24

/-- `CALL cc,nn` (R277). -/
def State.callIf (s : State) (c : Cond) (nn : Word) : State :=
  if s.holds c then ((s.push16 s.pc).setPc nn).charge 24 else s.charge 12

/-- `RET` (R278). -/
def State.ret (s : State) : State := (s.popped.setPc s.stackTop).charge 16

/-- `RET cc` (R279). -/
def State.retIf (s : State) (c : Cond) : State :=
  if s.holds c then (s.popped.setPc s.stackTop).charge 20 else s.charge 8

/-- `RETI` (R280). -/
def State.reti (s : State) : State := s.returnFromInterrupt.charge 16

/-- `8 * t` (R110, R281). -/
def restartTarget (t : Octal) : Word := BitVec.ofNat 16 (8 * t.toNat)

/-- `RST t` (R281). -/
def State.restart (s : State) (t : Octal) : State := ((s.push16 s.pc).setPc (restartTarget t)).charge 16

/-! ## One meaning for each row -/

/-- `JR e` (R274). -/
def execJr_e (e : Byte) (s : State) : Result := .next (s.jumpRel e)
/-- `JR NZ,e` (R275). -/
def execJr_NZ_e (e : Byte) (s : State) : Result := .next (s.jumpRelIf .NZ e)
/-- `JR Z,e` (R275). -/
def execJr_Z_e (e : Byte) (s : State) : Result := .next (s.jumpRelIf .Z e)
/-- `JR NC,e` (R275). -/
def execJr_NC_e (e : Byte) (s : State) : Result := .next (s.jumpRelIf .NC e)
/-- `JR C,e` (R275). -/
def execJr_C_e (e : Byte) (s : State) : Result := .next (s.jumpRelIf .C e)
/-- `RET NZ` (R279). -/
def execRet_NZ (s : State) : Result := .next (s.retIf .NZ)
/-- `JP NZ,nn` (R272). -/
def execJp_NZ_nn (nn : Word) (s : State) : Result := .next (s.jumpIf .NZ nn)
/-- `JP nn` (R271). -/
def execJp_nn (nn : Word) (s : State) : Result := .next (s.jump nn)
/-- `CALL NZ,nn` (R277). -/
def execCall_NZ_nn (nn : Word) (s : State) : Result := .next (s.callIf .NZ nn)
/-- `RST 00H` (R281). -/
def execRst_00H (s : State) : Result := .next (s.restart .o0)
/-- `RET Z` (R279). -/
def execRet_Z (s : State) : Result := .next (s.retIf .Z)
/-- `RET` (R278). -/
def execRet (s : State) : Result := .next (s.ret)
/-- `JP Z,nn` (R272). -/
def execJp_Z_nn (nn : Word) (s : State) : Result := .next (s.jumpIf .Z nn)
/-- `CALL Z,nn` (R277). -/
def execCall_Z_nn (nn : Word) (s : State) : Result := .next (s.callIf .Z nn)
/-- `CALL nn` (R276). -/
def execCall_nn (nn : Word) (s : State) : Result := .next (s.call nn)
/-- `RST 08H` (R281). -/
def execRst_08H (s : State) : Result := .next (s.restart .o1)
/-- `RET NC` (R279). -/
def execRet_NC (s : State) : Result := .next (s.retIf .NC)
/-- `JP NC,nn` (R272). -/
def execJp_NC_nn (nn : Word) (s : State) : Result := .next (s.jumpIf .NC nn)
/-- `CALL NC,nn` (R277). -/
def execCall_NC_nn (nn : Word) (s : State) : Result := .next (s.callIf .NC nn)
/-- `RST 10H` (R281). -/
def execRst_10H (s : State) : Result := .next (s.restart .o2)
/-- `RET C` (R279). -/
def execRet_C (s : State) : Result := .next (s.retIf .C)
/-- `RETI` (R280). -/
def execReti (s : State) : Result := .next (s.reti)
/-- `JP C,nn` (R272). -/
def execJp_C_nn (nn : Word) (s : State) : Result := .next (s.jumpIf .C nn)
/-- `CALL C,nn` (R277). -/
def execCall_C_nn (nn : Word) (s : State) : Result := .next (s.callIf .C nn)
/-- `RST 18H` (R281). -/
def execRst_18H (s : State) : Result := .next (s.restart .o3)
/-- `RST 20H` (R281). -/
def execRst_20H (s : State) : Result := .next (s.restart .o4)
/-- `JP HL` (R273). -/
def execJp_HL (s : State) : Result := .next (s.jumpHl)
/-- `RST 28H` (R281). -/
def execRst_28H (s : State) : Result := .next (s.restart .o5)
/-- `RST 30H` (R281). -/
def execRst_30H (s : State) : Result := .next (s.restart .o6)
/-- `RST 38H` (R281). -/
def execRst_38H (s : State) : Result := .next (s.restart .o7)

end Machine
end Sys2Proof
end

