-- ==== Sys2Proof/Machine/Load16.lean ====
section
/-! DEFINITION. The 16-bit loads and the stack (R160 to R168). One definition for each row of the opcode table. -/

namespace Sys2Proof
namespace Machine

/-! ## The shared operations -/

/-- `LD rr,nn` (R161). -/
def State.ldPairImm (s : State) (d : Reg16) (nn : Word) : State := (s.setReg16 d nn).charge 12

/-- `LD (nn),SP`: the low byte at `nn`, then the high byte at the next address (R11, R162). -/
def State.stSpAbs (s : State) (nn : Word) : State :=
  ((s.memWrite nn (loByte s.sp)).memWrite (nn + 1) (hiByte s.sp)).charge 20

/-- `LD SP,HL` (R163). -/
def State.ldSpHl (s : State) : State := (s.setSp s.hl).charge 8

/-- `LD HL,SP+e` (R164). -/
def State.ldHlSp (s : State) (e : Byte) : State :=
  ((s.setPair .HL (s.sp + sext8 e)).setFlags (spAddFlags s.sp e)).charge 12

/-- `PUSH rr` (R165). -/
def State.pushPair (s : State) (p : Pair) : State := (s.push16 (s.getPair p)).charge 16

/-- `PUSH AF` (R166). -/
def State.pushAf (s : State) : State := (s.push16 s.af).charge 16

/-- `POP rr` (R167). -/
def State.popPair (s : State) (p : Pair) : State := (s.popped.setPair p s.stackTop).charge 12

/-- `POP AF` (R168). -/
def State.popAf (s : State) : State := (s.popped.setAf s.stackTop).charge 12

/-! ## One meaning for each row -/

/-- `LD BC,nn` (R161). -/
def execLd_BC_nn (nn : Word) (s : State) : Result := .next (s.ldPairImm .BC nn)
/-- `LD (nn),SP` (R162). -/
def execLd_mnn_SP (nn : Word) (s : State) : Result := .next (s.stSpAbs nn)
/-- `LD DE,nn` (R161). -/
def execLd_DE_nn (nn : Word) (s : State) : Result := .next (s.ldPairImm .DE nn)
/-- `LD HL,nn` (R161). -/
def execLd_HL_nn (nn : Word) (s : State) : Result := .next (s.ldPairImm .HL nn)
/-- `LD SP,nn` (R161). -/
def execLd_SP_nn (nn : Word) (s : State) : Result := .next (s.ldPairImm .SP nn)
/-- `POP BC` (R167). -/
def execPop_BC (s : State) : Result := .next (s.popPair .BC)
/-- `PUSH BC` (R165). -/
def execPush_BC (s : State) : Result := .next (s.pushPair .BC)
/-- `POP DE` (R167). -/
def execPop_DE (s : State) : Result := .next (s.popPair .DE)
/-- `PUSH DE` (R165). -/
def execPush_DE (s : State) : Result := .next (s.pushPair .DE)
/-- `POP HL` (R167). -/
def execPop_HL (s : State) : Result := .next (s.popPair .HL)
/-- `PUSH HL` (R165). -/
def execPush_HL (s : State) : Result := .next (s.pushPair .HL)
/-- `POP AF` (R168). -/
def execPop_AF (s : State) : Result := .next (s.popAf)
/-- `PUSH AF` (R166). -/
def execPush_AF (s : State) : Result := .next (s.pushAf)
/-- `LD HL,SP+e` (R164). -/
def execLd_HL_SPe (e : Byte) (s : State) : Result := .next (s.ldHlSp e)
/-- `LD SP,HL` (R163). -/
def execLd_SP_HL (s : State) : Result := .next (s.ldSpHl)

end Machine
end Sys2Proof
end

