-- ==== Sys2Proof/Machine/Load8.lean ====
section
/-! DEFINITION. The 8-bit loads and stores (R130 to R149). An operation is applied with `PC` already past the operand bytes. One definition for each row of the opcode table. -/

namespace Sys2Proof
namespace Machine

/-! ## The shared operations -/

/-- `LD r,r'` (R131). -/
def State.ldRegReg (s : State) (d r : Reg8) : State := (s.setReg8 d (s.getReg8 r)).charge 4

/-- `LD r,n` (R132). -/
def State.ldRegImm (s : State) (d : Reg8) (n : Byte) : State := (s.setReg8 d n).charge 8

/-- `LD r,(HL)`: the address is read before `r` is written (R133). -/
def State.ldRegMem (s : State) (d : Reg8) : State := (s.setReg8 d s.readHl).charge 8

/-- `LD (HL),r` (R134). -/
def State.ldMemReg (s : State) (r : Reg8) : State := (s.writeHl (s.getReg8 r)).charge 8

/-- `LD (HL),n` (R135). -/
def State.ldMemImm (s : State) (n : Byte) : State := (s.writeHl n).charge 12

/-- `LD A,(BC)` and `LD A,(DE)` (R136, R137). -/
def State.ldAPair (s : State) (p : Pair) : State := (s.setA (s.memRead (s.getPair p))).charge 8

/-- `LD (BC),A` and `LD (DE),A` (R138, R139). -/
def State.stAPair (s : State) (p : Pair) : State := (s.memWrite (s.getPair p) s.a).charge 8

/-- `LD A,(nn)` (R140). -/
def State.ldAAbs (s : State) (nn : Word) : State := (s.setA (s.memRead nn)).charge 16

/-- `LD (nn),A` (R141). -/
def State.stAAbs (s : State) (nn : Word) : State := (s.memWrite nn s.a).charge 16

/-- `LDH A,(n)` (R142). -/
def State.ldAHighImm (s : State) (n : Byte) : State := (s.setA (s.memRead (highPage n))).charge 12

/-- `LDH (n),A` (R143). -/
def State.stAHighImm (s : State) (n : Byte) : State := (s.memWrite (highPage n) s.a).charge 12

/-- `LD A,(C)` (R144). -/
def State.ldAHighC (s : State) : State := (s.setA (s.memRead (highPage s.c))).charge 8

/-- `LD (C),A` (R145). -/
def State.stAHighC (s : State) : State := (s.memWrite (highPage s.c) s.a).charge 8

/-- `LD (HL+),A`: store, then step `HL` (R146). -/
def State.stAHlInc (s : State) : State := ((s.writeHl s.a).setPair .HL (s.hl + 1)).charge 8

/-- `LD A,(HL+)`: load, then step `HL` (R147). -/
def State.ldAHlInc (s : State) : State := ((s.setA s.readHl).setPair .HL (s.hl + 1)).charge 8

/-- `LD (HL-),A` (R148). -/
def State.stAHlDec (s : State) : State := ((s.writeHl s.a).setPair .HL (s.hl - 1)).charge 8

/-- `LD A,(HL-)` (R149). -/
def State.ldAHlDec (s : State) : State := ((s.setA s.readHl).setPair .HL (s.hl - 1)).charge 8

/-! ## One meaning for each row -/

/-- `LD (BC),A` (R138). -/
def execLd_mBC_A (s : State) : Result := .next (s.stAPair .BC)
/-- `LD B,n` (R132). -/
def execLd_B_n (n : Byte) (s : State) : Result := .next (s.ldRegImm .B n)
/-- `LD A,(BC)` (R136). -/
def execLd_A_mBC (s : State) : Result := .next (s.ldAPair .BC)
/-- `LD C,n` (R132). -/
def execLd_C_n (n : Byte) (s : State) : Result := .next (s.ldRegImm .C n)
/-- `LD (DE),A` (R139). -/
def execLd_mDE_A (s : State) : Result := .next (s.stAPair .DE)
/-- `LD D,n` (R132). -/
def execLd_D_n (n : Byte) (s : State) : Result := .next (s.ldRegImm .D n)
/-- `LD A,(DE)` (R137). -/
def execLd_A_mDE (s : State) : Result := .next (s.ldAPair .DE)
/-- `LD E,n` (R132). -/
def execLd_E_n (n : Byte) (s : State) : Result := .next (s.ldRegImm .E n)
/-- `LD (HL+),A` (R146). -/
def execLd_mHLinc_A (s : State) : Result := .next (s.stAHlInc)
/-- `LD H,n` (R132). -/
def execLd_H_n (n : Byte) (s : State) : Result := .next (s.ldRegImm .H n)
/-- `LD A,(HL+)` (R147). -/
def execLd_A_mHLinc (s : State) : Result := .next (s.ldAHlInc)
/-- `LD L,n` (R132). -/
def execLd_L_n (n : Byte) (s : State) : Result := .next (s.ldRegImm .L n)
/-- `LD (HL-),A` (R148). -/
def execLd_mHLdec_A (s : State) : Result := .next (s.stAHlDec)
/-- `LD (HL),n` (R135). -/
def execLd_mHL_n (n : Byte) (s : State) : Result := .next (s.ldMemImm n)
/-- `LD A,(HL-)` (R149). -/
def execLd_A_mHLdec (s : State) : Result := .next (s.ldAHlDec)
/-- `LD A,n` (R132). -/
def execLd_A_n (n : Byte) (s : State) : Result := .next (s.ldRegImm .A n)
/-- `LD B,B` (R131). -/
def execLd_B_B (s : State) : Result := .next (s.ldRegReg .B .B)
/-- `LD B,C` (R131). -/
def execLd_B_C (s : State) : Result := .next (s.ldRegReg .B .C)
/-- `LD B,D` (R131). -/
def execLd_B_D (s : State) : Result := .next (s.ldRegReg .B .D)
/-- `LD B,E` (R131). -/
def execLd_B_E (s : State) : Result := .next (s.ldRegReg .B .E)
/-- `LD B,H` (R131). -/
def execLd_B_H (s : State) : Result := .next (s.ldRegReg .B .H)
/-- `LD B,L` (R131). -/
def execLd_B_L (s : State) : Result := .next (s.ldRegReg .B .L)
/-- `LD B,(HL)` (R133). -/
def execLd_B_mHL (s : State) : Result := .next (s.ldRegMem .B)
/-- `LD B,A` (R131). -/
def execLd_B_A (s : State) : Result := .next (s.ldRegReg .B .A)
/-- `LD C,B` (R131). -/
def execLd_C_B (s : State) : Result := .next (s.ldRegReg .C .B)
/-- `LD C,C` (R131). -/
def execLd_C_C (s : State) : Result := .next (s.ldRegReg .C .C)
/-- `LD C,D` (R131). -/
def execLd_C_D (s : State) : Result := .next (s.ldRegReg .C .D)
/-- `LD C,E` (R131). -/
def execLd_C_E (s : State) : Result := .next (s.ldRegReg .C .E)
/-- `LD C,H` (R131). -/
def execLd_C_H (s : State) : Result := .next (s.ldRegReg .C .H)
/-- `LD C,L` (R131). -/
def execLd_C_L (s : State) : Result := .next (s.ldRegReg .C .L)
/-- `LD C,(HL)` (R133). -/
def execLd_C_mHL (s : State) : Result := .next (s.ldRegMem .C)
/-- `LD C,A` (R131). -/
def execLd_C_A (s : State) : Result := .next (s.ldRegReg .C .A)
/-- `LD D,B` (R131). -/
def execLd_D_B (s : State) : Result := .next (s.ldRegReg .D .B)
/-- `LD D,C` (R131). -/
def execLd_D_C (s : State) : Result := .next (s.ldRegReg .D .C)
/-- `LD D,D` (R131). -/
def execLd_D_D (s : State) : Result := .next (s.ldRegReg .D .D)
/-- `LD D,E` (R131). -/
def execLd_D_E (s : State) : Result := .next (s.ldRegReg .D .E)
/-- `LD D,H` (R131). -/
def execLd_D_H (s : State) : Result := .next (s.ldRegReg .D .H)
/-- `LD D,L` (R131). -/
def execLd_D_L (s : State) : Result := .next (s.ldRegReg .D .L)
/-- `LD D,(HL)` (R133). -/
def execLd_D_mHL (s : State) : Result := .next (s.ldRegMem .D)
/-- `LD D,A` (R131). -/
def execLd_D_A (s : State) : Result := .next (s.ldRegReg .D .A)
/-- `LD E,B` (R131). -/
def execLd_E_B (s : State) : Result := .next (s.ldRegReg .E .B)
/-- `LD E,C` (R131). -/
def execLd_E_C (s : State) : Result := .next (s.ldRegReg .E .C)
/-- `LD E,D` (R131). -/
def execLd_E_D (s : State) : Result := .next (s.ldRegReg .E .D)
/-- `LD E,E` (R131). -/
def execLd_E_E (s : State) : Result := .next (s.ldRegReg .E .E)
/-- `LD E,H` (R131). -/
def execLd_E_H (s : State) : Result := .next (s.ldRegReg .E .H)
/-- `LD E,L` (R131). -/
def execLd_E_L (s : State) : Result := .next (s.ldRegReg .E .L)
/-- `LD E,(HL)` (R133). -/
def execLd_E_mHL (s : State) : Result := .next (s.ldRegMem .E)
/-- `LD E,A` (R131). -/
def execLd_E_A (s : State) : Result := .next (s.ldRegReg .E .A)
/-- `LD H,B` (R131). -/
def execLd_H_B (s : State) : Result := .next (s.ldRegReg .H .B)
/-- `LD H,C` (R131). -/
def execLd_H_C (s : State) : Result := .next (s.ldRegReg .H .C)
/-- `LD H,D` (R131). -/
def execLd_H_D (s : State) : Result := .next (s.ldRegReg .H .D)
/-- `LD H,E` (R131). -/
def execLd_H_E (s : State) : Result := .next (s.ldRegReg .H .E)
/-- `LD H,H` (R131). -/
def execLd_H_H (s : State) : Result := .next (s.ldRegReg .H .H)
/-- `LD H,L` (R131). -/
def execLd_H_L (s : State) : Result := .next (s.ldRegReg .H .L)
/-- `LD H,(HL)` (R133). -/
def execLd_H_mHL (s : State) : Result := .next (s.ldRegMem .H)
/-- `LD H,A` (R131). -/
def execLd_H_A (s : State) : Result := .next (s.ldRegReg .H .A)
/-- `LD L,B` (R131). -/
def execLd_L_B (s : State) : Result := .next (s.ldRegReg .L .B)
/-- `LD L,C` (R131). -/
def execLd_L_C (s : State) : Result := .next (s.ldRegReg .L .C)
/-- `LD L,D` (R131). -/
def execLd_L_D (s : State) : Result := .next (s.ldRegReg .L .D)
/-- `LD L,E` (R131). -/
def execLd_L_E (s : State) : Result := .next (s.ldRegReg .L .E)
/-- `LD L,H` (R131). -/
def execLd_L_H (s : State) : Result := .next (s.ldRegReg .L .H)
/-- `LD L,L` (R131). -/
def execLd_L_L (s : State) : Result := .next (s.ldRegReg .L .L)
/-- `LD L,(HL)` (R133). -/
def execLd_L_mHL (s : State) : Result := .next (s.ldRegMem .L)
/-- `LD L,A` (R131). -/
def execLd_L_A (s : State) : Result := .next (s.ldRegReg .L .A)
/-- `LD (HL),B` (R134). -/
def execLd_mHL_B (s : State) : Result := .next (s.ldMemReg .B)
/-- `LD (HL),C` (R134). -/
def execLd_mHL_C (s : State) : Result := .next (s.ldMemReg .C)
/-- `LD (HL),D` (R134). -/
def execLd_mHL_D (s : State) : Result := .next (s.ldMemReg .D)
/-- `LD (HL),E` (R134). -/
def execLd_mHL_E (s : State) : Result := .next (s.ldMemReg .E)
/-- `LD (HL),H` (R134). -/
def execLd_mHL_H (s : State) : Result := .next (s.ldMemReg .H)
/-- `LD (HL),L` (R134). -/
def execLd_mHL_L (s : State) : Result := .next (s.ldMemReg .L)
/-- `LD (HL),A` (R134). -/
def execLd_mHL_A (s : State) : Result := .next (s.ldMemReg .A)
/-- `LD A,B` (R131). -/
def execLd_A_B (s : State) : Result := .next (s.ldRegReg .A .B)
/-- `LD A,C` (R131). -/
def execLd_A_C (s : State) : Result := .next (s.ldRegReg .A .C)
/-- `LD A,D` (R131). -/
def execLd_A_D (s : State) : Result := .next (s.ldRegReg .A .D)
/-- `LD A,E` (R131). -/
def execLd_A_E (s : State) : Result := .next (s.ldRegReg .A .E)
/-- `LD A,H` (R131). -/
def execLd_A_H (s : State) : Result := .next (s.ldRegReg .A .H)
/-- `LD A,L` (R131). -/
def execLd_A_L (s : State) : Result := .next (s.ldRegReg .A .L)
/-- `LD A,(HL)` (R133). -/
def execLd_A_mHL (s : State) : Result := .next (s.ldRegMem .A)
/-- `LD A,A` (R131). -/
def execLd_A_A (s : State) : Result := .next (s.ldRegReg .A .A)
/-- `LDH (n),A` (R143). -/
def execLdh_mn_A (n : Byte) (s : State) : Result := .next (s.stAHighImm n)
/-- `LD (C),A` (R145). -/
def execLd_mC_A (s : State) : Result := .next (s.stAHighC)
/-- `LD (nn),A` (R141). -/
def execLd_mnn_A (nn : Word) (s : State) : Result := .next (s.stAAbs nn)
/-- `LDH A,(n)` (R142). -/
def execLdh_A_mn (n : Byte) (s : State) : Result := .next (s.ldAHighImm n)
/-- `LD A,(C)` (R144). -/
def execLd_A_mC (s : State) : Result := .next (s.ldAHighC)
/-- `LD A,(nn)` (R140). -/
def execLd_A_mnn (nn : Word) (s : State) : Result := .next (s.ldAAbs nn)

end Machine
end Sys2Proof
end

