-- ==== Sys2Proof/Machine/Rotate.lean ====
section
/-! DEFINITION. The rotates, shifts and bit operations (R230 to R256). A form on `(HL)` reads the byte once and, where it writes, writes it once. One definition for each row of the opcode table. -/

namespace Sys2Proof
namespace Machine

/-! ## The shared operations -/

/-- The four accumulator rotates (R231 to R234). -/
def State.rotateA (s : State) (op : ShiftOp) : State :=
  ((s.setA (shiftByte op s.a s.flags.cf)).setFlags (accShiftFlags op s.a)).charge 4

/-- A rotate, a shift or SWAP of a register (R235 to R249, the odd rules). -/
def State.shiftReg (s : State) (op : ShiftOp) (r : Reg8) : State :=
  ((s.setReg8 r (shiftByte op (s.getReg8 r) s.flags.cf)).setFlags
    (shiftFlags op (s.getReg8 r) s.flags.cf)).charge 8

/-- A rotate, a shift or SWAP of `(HL)` (R236 to R250, the even rules). -/
def State.shiftMem (s : State) (op : ShiftOp) : State :=
  ((s.writeHl (shiftByte op s.readHl s.flags.cf)).setFlags (shiftFlags op s.readHl s.flags.cf)).charge 16

/-- `BIT b,r` (R251). -/
def State.bitReg (s : State) (k : Octal) (r : Reg8) : State :=
  (s.setFlags (bitFlags k (s.getReg8 r) s.flags)).charge 8

/-- `BIT b,(HL)` (R252). -/
def State.bitMem (s : State) (k : Octal) : State := (s.setFlags (bitFlags k s.readHl s.flags)).charge 12

/-- `RES b,r` (R253). -/
def State.resReg (s : State) (k : Octal) (r : Reg8) : State := (s.setReg8 r (resByte k (s.getReg8 r))).charge 8

/-- `RES b,(HL)` (R254). -/
def State.resMem (s : State) (k : Octal) : State := (s.writeHl (resByte k s.readHl)).charge 16

/-- `SET b,r` (R255). -/
def State.setReg (s : State) (k : Octal) (r : Reg8) : State := (s.setReg8 r (setByte k (s.getReg8 r))).charge 8

/-- `SET b,(HL)` (R256). -/
def State.setMem (s : State) (k : Octal) : State := (s.writeHl (setByte k s.readHl)).charge 16

/-! ## One meaning for each row -/

/-- `RLCA` (R231). -/
def execRlca (s : State) : Result := .next (s.rotateA .rlc)
/-- `RRCA` (R233). -/
def execRrca (s : State) : Result := .next (s.rotateA .rrc)
/-- `RLA` (R232). -/
def execRla (s : State) : Result := .next (s.rotateA .rl)
/-- `RRA` (R234). -/
def execRra (s : State) : Result := .next (s.rotateA .rr)
/-- `RLC B` (R235). -/
def execRlc_B (s : State) : Result := .next (s.shiftReg .rlc .B)
/-- `RLC C` (R235). -/
def execRlc_C (s : State) : Result := .next (s.shiftReg .rlc .C)
/-- `RLC D` (R235). -/
def execRlc_D (s : State) : Result := .next (s.shiftReg .rlc .D)
/-- `RLC E` (R235). -/
def execRlc_E (s : State) : Result := .next (s.shiftReg .rlc .E)
/-- `RLC H` (R235). -/
def execRlc_H (s : State) : Result := .next (s.shiftReg .rlc .H)
/-- `RLC L` (R235). -/
def execRlc_L (s : State) : Result := .next (s.shiftReg .rlc .L)
/-- `RLC (HL)` (R236). -/
def execRlc_mHL (s : State) : Result := .next (s.shiftMem .rlc)
/-- `RLC A` (R235). -/
def execRlc_A (s : State) : Result := .next (s.shiftReg .rlc .A)
/-- `RRC B` (R237). -/
def execRrc_B (s : State) : Result := .next (s.shiftReg .rrc .B)
/-- `RRC C` (R237). -/
def execRrc_C (s : State) : Result := .next (s.shiftReg .rrc .C)
/-- `RRC D` (R237). -/
def execRrc_D (s : State) : Result := .next (s.shiftReg .rrc .D)
/-- `RRC E` (R237). -/
def execRrc_E (s : State) : Result := .next (s.shiftReg .rrc .E)
/-- `RRC H` (R237). -/
def execRrc_H (s : State) : Result := .next (s.shiftReg .rrc .H)
/-- `RRC L` (R237). -/
def execRrc_L (s : State) : Result := .next (s.shiftReg .rrc .L)
/-- `RRC (HL)` (R238). -/
def execRrc_mHL (s : State) : Result := .next (s.shiftMem .rrc)
/-- `RRC A` (R237). -/
def execRrc_A (s : State) : Result := .next (s.shiftReg .rrc .A)
/-- `RL B` (R239). -/
def execRl_B (s : State) : Result := .next (s.shiftReg .rl .B)
/-- `RL C` (R239). -/
def execRl_C (s : State) : Result := .next (s.shiftReg .rl .C)
/-- `RL D` (R239). -/
def execRl_D (s : State) : Result := .next (s.shiftReg .rl .D)
/-- `RL E` (R239). -/
def execRl_E (s : State) : Result := .next (s.shiftReg .rl .E)
/-- `RL H` (R239). -/
def execRl_H (s : State) : Result := .next (s.shiftReg .rl .H)
/-- `RL L` (R239). -/
def execRl_L (s : State) : Result := .next (s.shiftReg .rl .L)
/-- `RL (HL)` (R240). -/
def execRl_mHL (s : State) : Result := .next (s.shiftMem .rl)
/-- `RL A` (R239). -/
def execRl_A (s : State) : Result := .next (s.shiftReg .rl .A)
/-- `RR B` (R241). -/
def execRr_B (s : State) : Result := .next (s.shiftReg .rr .B)
/-- `RR C` (R241). -/
def execRr_C (s : State) : Result := .next (s.shiftReg .rr .C)
/-- `RR D` (R241). -/
def execRr_D (s : State) : Result := .next (s.shiftReg .rr .D)
/-- `RR E` (R241). -/
def execRr_E (s : State) : Result := .next (s.shiftReg .rr .E)
/-- `RR H` (R241). -/
def execRr_H (s : State) : Result := .next (s.shiftReg .rr .H)
/-- `RR L` (R241). -/
def execRr_L (s : State) : Result := .next (s.shiftReg .rr .L)
/-- `RR (HL)` (R242). -/
def execRr_mHL (s : State) : Result := .next (s.shiftMem .rr)
/-- `RR A` (R241). -/
def execRr_A (s : State) : Result := .next (s.shiftReg .rr .A)
/-- `SLA B` (R243). -/
def execSla_B (s : State) : Result := .next (s.shiftReg .sla .B)
/-- `SLA C` (R243). -/
def execSla_C (s : State) : Result := .next (s.shiftReg .sla .C)
/-- `SLA D` (R243). -/
def execSla_D (s : State) : Result := .next (s.shiftReg .sla .D)
/-- `SLA E` (R243). -/
def execSla_E (s : State) : Result := .next (s.shiftReg .sla .E)
/-- `SLA H` (R243). -/
def execSla_H (s : State) : Result := .next (s.shiftReg .sla .H)
/-- `SLA L` (R243). -/
def execSla_L (s : State) : Result := .next (s.shiftReg .sla .L)
/-- `SLA (HL)` (R244). -/
def execSla_mHL (s : State) : Result := .next (s.shiftMem .sla)
/-- `SLA A` (R243). -/
def execSla_A (s : State) : Result := .next (s.shiftReg .sla .A)
/-- `SRA B` (R245). -/
def execSra_B (s : State) : Result := .next (s.shiftReg .sra .B)
/-- `SRA C` (R245). -/
def execSra_C (s : State) : Result := .next (s.shiftReg .sra .C)
/-- `SRA D` (R245). -/
def execSra_D (s : State) : Result := .next (s.shiftReg .sra .D)
/-- `SRA E` (R245). -/
def execSra_E (s : State) : Result := .next (s.shiftReg .sra .E)
/-- `SRA H` (R245). -/
def execSra_H (s : State) : Result := .next (s.shiftReg .sra .H)
/-- `SRA L` (R245). -/
def execSra_L (s : State) : Result := .next (s.shiftReg .sra .L)
/-- `SRA (HL)` (R246). -/
def execSra_mHL (s : State) : Result := .next (s.shiftMem .sra)
/-- `SRA A` (R245). -/
def execSra_A (s : State) : Result := .next (s.shiftReg .sra .A)
/-- `SWAP B` (R247). -/
def execSwap_B (s : State) : Result := .next (s.shiftReg .swap .B)
/-- `SWAP C` (R247). -/
def execSwap_C (s : State) : Result := .next (s.shiftReg .swap .C)
/-- `SWAP D` (R247). -/
def execSwap_D (s : State) : Result := .next (s.shiftReg .swap .D)
/-- `SWAP E` (R247). -/
def execSwap_E (s : State) : Result := .next (s.shiftReg .swap .E)
/-- `SWAP H` (R247). -/
def execSwap_H (s : State) : Result := .next (s.shiftReg .swap .H)
/-- `SWAP L` (R247). -/
def execSwap_L (s : State) : Result := .next (s.shiftReg .swap .L)
/-- `SWAP (HL)` (R248). -/
def execSwap_mHL (s : State) : Result := .next (s.shiftMem .swap)
/-- `SWAP A` (R247). -/
def execSwap_A (s : State) : Result := .next (s.shiftReg .swap .A)
/-- `SRL B` (R249). -/
def execSrl_B (s : State) : Result := .next (s.shiftReg .srl .B)
/-- `SRL C` (R249). -/
def execSrl_C (s : State) : Result := .next (s.shiftReg .srl .C)
/-- `SRL D` (R249). -/
def execSrl_D (s : State) : Result := .next (s.shiftReg .srl .D)
/-- `SRL E` (R249). -/
def execSrl_E (s : State) : Result := .next (s.shiftReg .srl .E)
/-- `SRL H` (R249). -/
def execSrl_H (s : State) : Result := .next (s.shiftReg .srl .H)
/-- `SRL L` (R249). -/
def execSrl_L (s : State) : Result := .next (s.shiftReg .srl .L)
/-- `SRL (HL)` (R250). -/
def execSrl_mHL (s : State) : Result := .next (s.shiftMem .srl)
/-- `SRL A` (R249). -/
def execSrl_A (s : State) : Result := .next (s.shiftReg .srl .A)
/-- `BIT 0,B` (R251). -/
def execBit_0_B (s : State) : Result := .next (s.bitReg .o0 .B)
/-- `BIT 0,C` (R251). -/
def execBit_0_C (s : State) : Result := .next (s.bitReg .o0 .C)
/-- `BIT 0,D` (R251). -/
def execBit_0_D (s : State) : Result := .next (s.bitReg .o0 .D)
/-- `BIT 0,E` (R251). -/
def execBit_0_E (s : State) : Result := .next (s.bitReg .o0 .E)
/-- `BIT 0,H` (R251). -/
def execBit_0_H (s : State) : Result := .next (s.bitReg .o0 .H)
/-- `BIT 0,L` (R251). -/
def execBit_0_L (s : State) : Result := .next (s.bitReg .o0 .L)
/-- `BIT 0,(HL)` (R252). -/
def execBit_0_mHL (s : State) : Result := .next (s.bitMem .o0)
/-- `BIT 0,A` (R251). -/
def execBit_0_A (s : State) : Result := .next (s.bitReg .o0 .A)
/-- `BIT 1,B` (R251). -/
def execBit_1_B (s : State) : Result := .next (s.bitReg .o1 .B)
/-- `BIT 1,C` (R251). -/
def execBit_1_C (s : State) : Result := .next (s.bitReg .o1 .C)
/-- `BIT 1,D` (R251). -/
def execBit_1_D (s : State) : Result := .next (s.bitReg .o1 .D)
/-- `BIT 1,E` (R251). -/
def execBit_1_E (s : State) : Result := .next (s.bitReg .o1 .E)
/-- `BIT 1,H` (R251). -/
def execBit_1_H (s : State) : Result := .next (s.bitReg .o1 .H)
/-- `BIT 1,L` (R251). -/
def execBit_1_L (s : State) : Result := .next (s.bitReg .o1 .L)
/-- `BIT 1,(HL)` (R252). -/
def execBit_1_mHL (s : State) : Result := .next (s.bitMem .o1)
/-- `BIT 1,A` (R251). -/
def execBit_1_A (s : State) : Result := .next (s.bitReg .o1 .A)
/-- `BIT 2,B` (R251). -/
def execBit_2_B (s : State) : Result := .next (s.bitReg .o2 .B)
/-- `BIT 2,C` (R251). -/
def execBit_2_C (s : State) : Result := .next (s.bitReg .o2 .C)
/-- `BIT 2,D` (R251). -/
def execBit_2_D (s : State) : Result := .next (s.bitReg .o2 .D)
/-- `BIT 2,E` (R251). -/
def execBit_2_E (s : State) : Result := .next (s.bitReg .o2 .E)
/-- `BIT 2,H` (R251). -/
def execBit_2_H (s : State) : Result := .next (s.bitReg .o2 .H)
/-- `BIT 2,L` (R251). -/
def execBit_2_L (s : State) : Result := .next (s.bitReg .o2 .L)
/-- `BIT 2,(HL)` (R252). -/
def execBit_2_mHL (s : State) : Result := .next (s.bitMem .o2)
/-- `BIT 2,A` (R251). -/
def execBit_2_A (s : State) : Result := .next (s.bitReg .o2 .A)
/-- `BIT 3,B` (R251). -/
def execBit_3_B (s : State) : Result := .next (s.bitReg .o3 .B)
/-- `BIT 3,C` (R251). -/
def execBit_3_C (s : State) : Result := .next (s.bitReg .o3 .C)
/-- `BIT 3,D` (R251). -/
def execBit_3_D (s : State) : Result := .next (s.bitReg .o3 .D)
/-- `BIT 3,E` (R251). -/
def execBit_3_E (s : State) : Result := .next (s.bitReg .o3 .E)
/-- `BIT 3,H` (R251). -/
def execBit_3_H (s : State) : Result := .next (s.bitReg .o3 .H)
/-- `BIT 3,L` (R251). -/
def execBit_3_L (s : State) : Result := .next (s.bitReg .o3 .L)
/-- `BIT 3,(HL)` (R252). -/
def execBit_3_mHL (s : State) : Result := .next (s.bitMem .o3)
/-- `BIT 3,A` (R251). -/
def execBit_3_A (s : State) : Result := .next (s.bitReg .o3 .A)
/-- `BIT 4,B` (R251). -/
def execBit_4_B (s : State) : Result := .next (s.bitReg .o4 .B)
/-- `BIT 4,C` (R251). -/
def execBit_4_C (s : State) : Result := .next (s.bitReg .o4 .C)
/-- `BIT 4,D` (R251). -/
def execBit_4_D (s : State) : Result := .next (s.bitReg .o4 .D)
/-- `BIT 4,E` (R251). -/
def execBit_4_E (s : State) : Result := .next (s.bitReg .o4 .E)
/-- `BIT 4,H` (R251). -/
def execBit_4_H (s : State) : Result := .next (s.bitReg .o4 .H)
/-- `BIT 4,L` (R251). -/
def execBit_4_L (s : State) : Result := .next (s.bitReg .o4 .L)
/-- `BIT 4,(HL)` (R252). -/
def execBit_4_mHL (s : State) : Result := .next (s.bitMem .o4)
/-- `BIT 4,A` (R251). -/
def execBit_4_A (s : State) : Result := .next (s.bitReg .o4 .A)
/-- `BIT 5,B` (R251). -/
def execBit_5_B (s : State) : Result := .next (s.bitReg .o5 .B)
/-- `BIT 5,C` (R251). -/
def execBit_5_C (s : State) : Result := .next (s.bitReg .o5 .C)
/-- `BIT 5,D` (R251). -/
def execBit_5_D (s : State) : Result := .next (s.bitReg .o5 .D)
/-- `BIT 5,E` (R251). -/
def execBit_5_E (s : State) : Result := .next (s.bitReg .o5 .E)
/-- `BIT 5,H` (R251). -/
def execBit_5_H (s : State) : Result := .next (s.bitReg .o5 .H)
/-- `BIT 5,L` (R251). -/
def execBit_5_L (s : State) : Result := .next (s.bitReg .o5 .L)
/-- `BIT 5,(HL)` (R252). -/
def execBit_5_mHL (s : State) : Result := .next (s.bitMem .o5)
/-- `BIT 5,A` (R251). -/
def execBit_5_A (s : State) : Result := .next (s.bitReg .o5 .A)
/-- `BIT 6,B` (R251). -/
def execBit_6_B (s : State) : Result := .next (s.bitReg .o6 .B)
/-- `BIT 6,C` (R251). -/
def execBit_6_C (s : State) : Result := .next (s.bitReg .o6 .C)
/-- `BIT 6,D` (R251). -/
def execBit_6_D (s : State) : Result := .next (s.bitReg .o6 .D)
/-- `BIT 6,E` (R251). -/
def execBit_6_E (s : State) : Result := .next (s.bitReg .o6 .E)
/-- `BIT 6,H` (R251). -/
def execBit_6_H (s : State) : Result := .next (s.bitReg .o6 .H)
/-- `BIT 6,L` (R251). -/
def execBit_6_L (s : State) : Result := .next (s.bitReg .o6 .L)
/-- `BIT 6,(HL)` (R252). -/
def execBit_6_mHL (s : State) : Result := .next (s.bitMem .o6)
/-- `BIT 6,A` (R251). -/
def execBit_6_A (s : State) : Result := .next (s.bitReg .o6 .A)
/-- `BIT 7,B` (R251). -/
def execBit_7_B (s : State) : Result := .next (s.bitReg .o7 .B)
/-- `BIT 7,C` (R251). -/
def execBit_7_C (s : State) : Result := .next (s.bitReg .o7 .C)
/-- `BIT 7,D` (R251). -/
def execBit_7_D (s : State) : Result := .next (s.bitReg .o7 .D)
/-- `BIT 7,E` (R251). -/
def execBit_7_E (s : State) : Result := .next (s.bitReg .o7 .E)
/-- `BIT 7,H` (R251). -/
def execBit_7_H (s : State) : Result := .next (s.bitReg .o7 .H)
/-- `BIT 7,L` (R251). -/
def execBit_7_L (s : State) : Result := .next (s.bitReg .o7 .L)
/-- `BIT 7,(HL)` (R252). -/
def execBit_7_mHL (s : State) : Result := .next (s.bitMem .o7)
/-- `BIT 7,A` (R251). -/
def execBit_7_A (s : State) : Result := .next (s.bitReg .o7 .A)
/-- `RES 0,B` (R253). -/
def execRes_0_B (s : State) : Result := .next (s.resReg .o0 .B)
/-- `RES 0,C` (R253). -/
def execRes_0_C (s : State) : Result := .next (s.resReg .o0 .C)
/-- `RES 0,D` (R253). -/
def execRes_0_D (s : State) : Result := .next (s.resReg .o0 .D)
/-- `RES 0,E` (R253). -/
def execRes_0_E (s : State) : Result := .next (s.resReg .o0 .E)
/-- `RES 0,H` (R253). -/
def execRes_0_H (s : State) : Result := .next (s.resReg .o0 .H)
/-- `RES 0,L` (R253). -/
def execRes_0_L (s : State) : Result := .next (s.resReg .o0 .L)
/-- `RES 0,(HL)` (R254). -/
def execRes_0_mHL (s : State) : Result := .next (s.resMem .o0)
/-- `RES 0,A` (R253). -/
def execRes_0_A (s : State) : Result := .next (s.resReg .o0 .A)
/-- `RES 1,B` (R253). -/
def execRes_1_B (s : State) : Result := .next (s.resReg .o1 .B)
/-- `RES 1,C` (R253). -/
def execRes_1_C (s : State) : Result := .next (s.resReg .o1 .C)
/-- `RES 1,D` (R253). -/
def execRes_1_D (s : State) : Result := .next (s.resReg .o1 .D)
/-- `RES 1,E` (R253). -/
def execRes_1_E (s : State) : Result := .next (s.resReg .o1 .E)
/-- `RES 1,H` (R253). -/
def execRes_1_H (s : State) : Result := .next (s.resReg .o1 .H)
/-- `RES 1,L` (R253). -/
def execRes_1_L (s : State) : Result := .next (s.resReg .o1 .L)
/-- `RES 1,(HL)` (R254). -/
def execRes_1_mHL (s : State) : Result := .next (s.resMem .o1)
/-- `RES 1,A` (R253). -/
def execRes_1_A (s : State) : Result := .next (s.resReg .o1 .A)
/-- `RES 2,B` (R253). -/
def execRes_2_B (s : State) : Result := .next (s.resReg .o2 .B)
/-- `RES 2,C` (R253). -/
def execRes_2_C (s : State) : Result := .next (s.resReg .o2 .C)
/-- `RES 2,D` (R253). -/
def execRes_2_D (s : State) : Result := .next (s.resReg .o2 .D)
/-- `RES 2,E` (R253). -/
def execRes_2_E (s : State) : Result := .next (s.resReg .o2 .E)
/-- `RES 2,H` (R253). -/
def execRes_2_H (s : State) : Result := .next (s.resReg .o2 .H)
/-- `RES 2,L` (R253). -/
def execRes_2_L (s : State) : Result := .next (s.resReg .o2 .L)
/-- `RES 2,(HL)` (R254). -/
def execRes_2_mHL (s : State) : Result := .next (s.resMem .o2)
/-- `RES 2,A` (R253). -/
def execRes_2_A (s : State) : Result := .next (s.resReg .o2 .A)
/-- `RES 3,B` (R253). -/
def execRes_3_B (s : State) : Result := .next (s.resReg .o3 .B)
/-- `RES 3,C` (R253). -/
def execRes_3_C (s : State) : Result := .next (s.resReg .o3 .C)
/-- `RES 3,D` (R253). -/
def execRes_3_D (s : State) : Result := .next (s.resReg .o3 .D)
/-- `RES 3,E` (R253). -/
def execRes_3_E (s : State) : Result := .next (s.resReg .o3 .E)
/-- `RES 3,H` (R253). -/
def execRes_3_H (s : State) : Result := .next (s.resReg .o3 .H)
/-- `RES 3,L` (R253). -/
def execRes_3_L (s : State) : Result := .next (s.resReg .o3 .L)
/-- `RES 3,(HL)` (R254). -/
def execRes_3_mHL (s : State) : Result := .next (s.resMem .o3)
/-- `RES 3,A` (R253). -/
def execRes_3_A (s : State) : Result := .next (s.resReg .o3 .A)
/-- `RES 4,B` (R253). -/
def execRes_4_B (s : State) : Result := .next (s.resReg .o4 .B)
/-- `RES 4,C` (R253). -/
def execRes_4_C (s : State) : Result := .next (s.resReg .o4 .C)
/-- `RES 4,D` (R253). -/
def execRes_4_D (s : State) : Result := .next (s.resReg .o4 .D)
/-- `RES 4,E` (R253). -/
def execRes_4_E (s : State) : Result := .next (s.resReg .o4 .E)
/-- `RES 4,H` (R253). -/
def execRes_4_H (s : State) : Result := .next (s.resReg .o4 .H)
/-- `RES 4,L` (R253). -/
def execRes_4_L (s : State) : Result := .next (s.resReg .o4 .L)
/-- `RES 4,(HL)` (R254). -/
def execRes_4_mHL (s : State) : Result := .next (s.resMem .o4)
/-- `RES 4,A` (R253). -/
def execRes_4_A (s : State) : Result := .next (s.resReg .o4 .A)
/-- `RES 5,B` (R253). -/
def execRes_5_B (s : State) : Result := .next (s.resReg .o5 .B)
/-- `RES 5,C` (R253). -/
def execRes_5_C (s : State) : Result := .next (s.resReg .o5 .C)
/-- `RES 5,D` (R253). -/
def execRes_5_D (s : State) : Result := .next (s.resReg .o5 .D)
/-- `RES 5,E` (R253). -/
def execRes_5_E (s : State) : Result := .next (s.resReg .o5 .E)
/-- `RES 5,H` (R253). -/
def execRes_5_H (s : State) : Result := .next (s.resReg .o5 .H)
/-- `RES 5,L` (R253). -/
def execRes_5_L (s : State) : Result := .next (s.resReg .o5 .L)
/-- `RES 5,(HL)` (R254). -/
def execRes_5_mHL (s : State) : Result := .next (s.resMem .o5)
/-- `RES 5,A` (R253). -/
def execRes_5_A (s : State) : Result := .next (s.resReg .o5 .A)
/-- `RES 6,B` (R253). -/
def execRes_6_B (s : State) : Result := .next (s.resReg .o6 .B)
/-- `RES 6,C` (R253). -/
def execRes_6_C (s : State) : Result := .next (s.resReg .o6 .C)
/-- `RES 6,D` (R253). -/
def execRes_6_D (s : State) : Result := .next (s.resReg .o6 .D)
/-- `RES 6,E` (R253). -/
def execRes_6_E (s : State) : Result := .next (s.resReg .o6 .E)
/-- `RES 6,H` (R253). -/
def execRes_6_H (s : State) : Result := .next (s.resReg .o6 .H)
/-- `RES 6,L` (R253). -/
def execRes_6_L (s : State) : Result := .next (s.resReg .o6 .L)
/-- `RES 6,(HL)` (R254). -/
def execRes_6_mHL (s : State) : Result := .next (s.resMem .o6)
/-- `RES 6,A` (R253). -/
def execRes_6_A (s : State) : Result := .next (s.resReg .o6 .A)
/-- `RES 7,B` (R253). -/
def execRes_7_B (s : State) : Result := .next (s.resReg .o7 .B)
/-- `RES 7,C` (R253). -/
def execRes_7_C (s : State) : Result := .next (s.resReg .o7 .C)
/-- `RES 7,D` (R253). -/
def execRes_7_D (s : State) : Result := .next (s.resReg .o7 .D)
/-- `RES 7,E` (R253). -/
def execRes_7_E (s : State) : Result := .next (s.resReg .o7 .E)
/-- `RES 7,H` (R253). -/
def execRes_7_H (s : State) : Result := .next (s.resReg .o7 .H)
/-- `RES 7,L` (R253). -/
def execRes_7_L (s : State) : Result := .next (s.resReg .o7 .L)
/-- `RES 7,(HL)` (R254). -/
def execRes_7_mHL (s : State) : Result := .next (s.resMem .o7)
/-- `RES 7,A` (R253). -/
def execRes_7_A (s : State) : Result := .next (s.resReg .o7 .A)
/-- `SET 0,B` (R255). -/
def execSet_0_B (s : State) : Result := .next (s.setReg .o0 .B)
/-- `SET 0,C` (R255). -/
def execSet_0_C (s : State) : Result := .next (s.setReg .o0 .C)
/-- `SET 0,D` (R255). -/
def execSet_0_D (s : State) : Result := .next (s.setReg .o0 .D)
/-- `SET 0,E` (R255). -/
def execSet_0_E (s : State) : Result := .next (s.setReg .o0 .E)
/-- `SET 0,H` (R255). -/
def execSet_0_H (s : State) : Result := .next (s.setReg .o0 .H)
/-- `SET 0,L` (R255). -/
def execSet_0_L (s : State) : Result := .next (s.setReg .o0 .L)
/-- `SET 0,(HL)` (R256). -/
def execSet_0_mHL (s : State) : Result := .next (s.setMem .o0)
/-- `SET 0,A` (R255). -/
def execSet_0_A (s : State) : Result := .next (s.setReg .o0 .A)
/-- `SET 1,B` (R255). -/
def execSet_1_B (s : State) : Result := .next (s.setReg .o1 .B)
/-- `SET 1,C` (R255). -/
def execSet_1_C (s : State) : Result := .next (s.setReg .o1 .C)
/-- `SET 1,D` (R255). -/
def execSet_1_D (s : State) : Result := .next (s.setReg .o1 .D)
/-- `SET 1,E` (R255). -/
def execSet_1_E (s : State) : Result := .next (s.setReg .o1 .E)
/-- `SET 1,H` (R255). -/
def execSet_1_H (s : State) : Result := .next (s.setReg .o1 .H)
/-- `SET 1,L` (R255). -/
def execSet_1_L (s : State) : Result := .next (s.setReg .o1 .L)
/-- `SET 1,(HL)` (R256). -/
def execSet_1_mHL (s : State) : Result := .next (s.setMem .o1)
/-- `SET 1,A` (R255). -/
def execSet_1_A (s : State) : Result := .next (s.setReg .o1 .A)
/-- `SET 2,B` (R255). -/
def execSet_2_B (s : State) : Result := .next (s.setReg .o2 .B)
/-- `SET 2,C` (R255). -/
def execSet_2_C (s : State) : Result := .next (s.setReg .o2 .C)
/-- `SET 2,D` (R255). -/
def execSet_2_D (s : State) : Result := .next (s.setReg .o2 .D)
/-- `SET 2,E` (R255). -/
def execSet_2_E (s : State) : Result := .next (s.setReg .o2 .E)
/-- `SET 2,H` (R255). -/
def execSet_2_H (s : State) : Result := .next (s.setReg .o2 .H)
/-- `SET 2,L` (R255). -/
def execSet_2_L (s : State) : Result := .next (s.setReg .o2 .L)
/-- `SET 2,(HL)` (R256). -/
def execSet_2_mHL (s : State) : Result := .next (s.setMem .o2)
/-- `SET 2,A` (R255). -/
def execSet_2_A (s : State) : Result := .next (s.setReg .o2 .A)
/-- `SET 3,B` (R255). -/
def execSet_3_B (s : State) : Result := .next (s.setReg .o3 .B)
/-- `SET 3,C` (R255). -/
def execSet_3_C (s : State) : Result := .next (s.setReg .o3 .C)
/-- `SET 3,D` (R255). -/
def execSet_3_D (s : State) : Result := .next (s.setReg .o3 .D)
/-- `SET 3,E` (R255). -/
def execSet_3_E (s : State) : Result := .next (s.setReg .o3 .E)
/-- `SET 3,H` (R255). -/
def execSet_3_H (s : State) : Result := .next (s.setReg .o3 .H)
/-- `SET 3,L` (R255). -/
def execSet_3_L (s : State) : Result := .next (s.setReg .o3 .L)
/-- `SET 3,(HL)` (R256). -/
def execSet_3_mHL (s : State) : Result := .next (s.setMem .o3)
/-- `SET 3,A` (R255). -/
def execSet_3_A (s : State) : Result := .next (s.setReg .o3 .A)
/-- `SET 4,B` (R255). -/
def execSet_4_B (s : State) : Result := .next (s.setReg .o4 .B)
/-- `SET 4,C` (R255). -/
def execSet_4_C (s : State) : Result := .next (s.setReg .o4 .C)
/-- `SET 4,D` (R255). -/
def execSet_4_D (s : State) : Result := .next (s.setReg .o4 .D)
/-- `SET 4,E` (R255). -/
def execSet_4_E (s : State) : Result := .next (s.setReg .o4 .E)
/-- `SET 4,H` (R255). -/
def execSet_4_H (s : State) : Result := .next (s.setReg .o4 .H)
/-- `SET 4,L` (R255). -/
def execSet_4_L (s : State) : Result := .next (s.setReg .o4 .L)
/-- `SET 4,(HL)` (R256). -/
def execSet_4_mHL (s : State) : Result := .next (s.setMem .o4)
/-- `SET 4,A` (R255). -/
def execSet_4_A (s : State) : Result := .next (s.setReg .o4 .A)
/-- `SET 5,B` (R255). -/
def execSet_5_B (s : State) : Result := .next (s.setReg .o5 .B)
/-- `SET 5,C` (R255). -/
def execSet_5_C (s : State) : Result := .next (s.setReg .o5 .C)
/-- `SET 5,D` (R255). -/
def execSet_5_D (s : State) : Result := .next (s.setReg .o5 .D)
/-- `SET 5,E` (R255). -/
def execSet_5_E (s : State) : Result := .next (s.setReg .o5 .E)
/-- `SET 5,H` (R255). -/
def execSet_5_H (s : State) : Result := .next (s.setReg .o5 .H)
/-- `SET 5,L` (R255). -/
def execSet_5_L (s : State) : Result := .next (s.setReg .o5 .L)
/-- `SET 5,(HL)` (R256). -/
def execSet_5_mHL (s : State) : Result := .next (s.setMem .o5)
/-- `SET 5,A` (R255). -/
def execSet_5_A (s : State) : Result := .next (s.setReg .o5 .A)
/-- `SET 6,B` (R255). -/
def execSet_6_B (s : State) : Result := .next (s.setReg .o6 .B)
/-- `SET 6,C` (R255). -/
def execSet_6_C (s : State) : Result := .next (s.setReg .o6 .C)
/-- `SET 6,D` (R255). -/
def execSet_6_D (s : State) : Result := .next (s.setReg .o6 .D)
/-- `SET 6,E` (R255). -/
def execSet_6_E (s : State) : Result := .next (s.setReg .o6 .E)
/-- `SET 6,H` (R255). -/
def execSet_6_H (s : State) : Result := .next (s.setReg .o6 .H)
/-- `SET 6,L` (R255). -/
def execSet_6_L (s : State) : Result := .next (s.setReg .o6 .L)
/-- `SET 6,(HL)` (R256). -/
def execSet_6_mHL (s : State) : Result := .next (s.setMem .o6)
/-- `SET 6,A` (R255). -/
def execSet_6_A (s : State) : Result := .next (s.setReg .o6 .A)
/-- `SET 7,B` (R255). -/
def execSet_7_B (s : State) : Result := .next (s.setReg .o7 .B)
/-- `SET 7,C` (R255). -/
def execSet_7_C (s : State) : Result := .next (s.setReg .o7 .C)
/-- `SET 7,D` (R255). -/
def execSet_7_D (s : State) : Result := .next (s.setReg .o7 .D)
/-- `SET 7,E` (R255). -/
def execSet_7_E (s : State) : Result := .next (s.setReg .o7 .E)
/-- `SET 7,H` (R255). -/
def execSet_7_H (s : State) : Result := .next (s.setReg .o7 .H)
/-- `SET 7,L` (R255). -/
def execSet_7_L (s : State) : Result := .next (s.setReg .o7 .L)
/-- `SET 7,(HL)` (R256). -/
def execSet_7_mHL (s : State) : Result := .next (s.setMem .o7)
/-- `SET 7,A` (R255). -/
def execSet_7_A (s : State) : Result := .next (s.setReg .o7 .A)

end Machine
end Sys2Proof
end

