-- ==== Sys2Proof/Machine/System.lean ====
section
/-! DEFINITION. The system instructions (R290 to R296): NOP, HALT, STOP, DI, EI, the prefix byte and the undefined opcodes. The end of the instruction, where the enable delay counts down, is `State.endInstruction`. One definition for each row of the opcode table. -/

namespace Sys2Proof
namespace Machine

/-! ## The shared operations -/

/-- `NOP` (R290). -/
def State.noOperation (s : State) : State := s.charge 4

/-- `HALT` (R291). -/
def State.halt (s : State) : State := (s.setHalted true).charge 4

/-- `STOP`; its second byte is fetched and ignored (R292). -/
def State.stop (s : State) : State := (s.setStopped true).charge 4

/-- `DI` (R293). -/
def State.disableInterrupts (s : State) : State := ((s.setIme false).setImeDelay 0).charge 4

/-- `EI` (R294). -/
def State.enableInterrupts (s : State) : State :=
  (if s.imeDelay = 0 then s.setImeDelay 2 else s).charge 4

/-- The operation of the extended page that the second opcode byte selects (R113, R235 to R256). -/
def State.extended (s : State) (b1 : Byte) : State :=
  match fieldX b1, codeReg8 (fieldZ b1) with
  | 0, some r => s.shiftReg (codeShift (fieldY b1)) r
  | 0, none => s.shiftMem (codeShift (fieldY b1))
  | 1, some r => s.bitReg (fieldY b1) r
  | 1, none => s.bitMem (fieldY b1)
  | 2, some r => s.resReg (fieldY b1) r
  | 2, none => s.resMem (fieldY b1)
  | _, some r => s.setReg (fieldY b1) r
  | _, none => s.setMem (fieldY b1)

/-- The prefix byte: the second byte is fetched in the same step and selects the operation. The decoder never
yields this row, it yields the row of the extended page (R295). -/
def State.prefixed (s : State) : State := (s.setPc (s.pc + 1)).extended (s.fetchByte 0)

/-! ## One meaning for each row -/

/-- `NOP` (R290). -/
def execNop (s : State) : Result := .next (s.noOperation)
/-- `STOP` (R292). -/
def execStop (_pad : Byte) (s : State) : Result := .next (s.stop)
/-- `HALT` (R291). -/
def execHalt (s : State) : Result := .next (s.halt)
/-- `UNDEFINED` (R296). -/
def execUndefined (op : Byte) (s : State) : Result := .next (s.raiseUnimplemented [op])
/-- `DI` (R293). -/
def execDi (s : State) : Result := .next (s.disableInterrupts)
/-- `EI` (R294). -/
def execEi (s : State) : Result := .next (s.enableInterrupts)
/-- `PREFIX CB` (R295). -/
def execPrefixCB (s : State) : Result := .next (s.prefixed)

end Machine
end Sys2Proof
end

