-- ==== Sys2Proof/Machine/Display.lean ====
section
/-! DEFINITION. The display controller: the scanline renderer (R360 to R366) and the mode machine with its scanline
counter, line compare, interrupt requests and frame publication (R350 to R357). -/

namespace Sys2Proof
namespace Machine

/-! ## The scanline renderer -/

/-- The shade a palette register gives colour index `i`: its bits `2i+1..2i` (R49, R363). -/
def paletteShade (pal : Byte) (i : Shade) : Shade := pal.extractLsb' (2 * i.toNat) 2

/-- The colour index whose two bits stand at position `k` of the two plane bytes (R362). -/
def planeIndex (lo hi : Byte) (k : Nat) : Shade := BitVec.ofBool (bitAt hi k) ++ BitVec.ofBool (bitAt lo k)

/-- Whether the background and the window are drawn: `LCDC[0]` (R43, R361). -/
def State.bgOn (s : State) : Bool := s.ioBit .LCDC 0

/-- Whether the window covers the pixel (R50, R361). -/
def State.usesWindow (s : State) (ly x : Nat) : Bool :=
  s.ioBit .LCDC 5 && decide ((s.ioGet .WY).toNat ≤ ly)
    && decide ((s.ioGet .WX).toNat ≤ x + 7)

/-- The tile map selected by bit `k` of LCDC (R43). -/
def State.mapBase (s : State) (k : Nat) : Nat := if s.ioBit .LCDC k then 0x9C00 else 0x9800

/-- The tile map, column and row of the pixel's place in the window or the background plane (R361). -/
def State.planeCoord (s : State) (ly x : Nat) : Nat × Nat × Nat :=
  if s.usesWindow ly x then
    (s.mapBase 6, x + 7 - (s.ioGet .WX).toNat, ly - (s.ioGet .WY).toNat)
  else
    (s.mapBase 3, ((s.ioGet .SCX).toNat + x) % 256, ((s.ioGet .SCY).toNat + ly) % 256)

/-- The address of a tile's data: unsigned from 0x8000 or signed from 0x9000 (R362). -/
def State.tileAddr (s : State) (id : Byte) : Nat :=
  if s.ioBit .LCDC 4 then 0x8000 + id.toNat * 16 else (0x9000 + id.toInt * 16).toNat

/-- The tile fetch (R362). -/
def State.tileIndex (s : State) (map px py : Nat) : Shade :=
  let id := s.rawGet (map + py / 8 * 32 + px / 8)
  let addr := s.tileAddr id + 2 * (py % 8)
  planeIndex (s.rawGet addr) (s.rawGet (addr + 1)) (7 - px % 8)

/-- `bgidx[x]` on line `ly` (R361, R362). -/
def State.bgIndex (s : State) (ly x : Nat) : Shade :=
  if s.bgOn then
    let c := s.planeCoord ly x
    s.tileIndex c.1 c.2.1 c.2.2
  else 0

/-- The shade the background and window pass writes (R361, R363). -/
def State.bgShade (s : State) (ly x : Nat) : Shade :=
  if s.bgOn then paletteShade (s.ioGet .BGP) (s.bgIndex ly x) else 0

/-- What the sprite pass uses of a table entry that covers the line: its X byte, its attributes and the two plane
bytes of its row. -/
structure SpriteRow where
  xpos : Byte
  attr : Byte
  lo : Byte
  hi : Byte
  deriving DecidableEq, Repr

/-- The height of a sprite: `LCDC[2]` (R364). -/
def State.spriteHeight (s : State) : Nat := if s.ioBit .LCDC 2 then 16 else 8

/-- Entry `i` of the sprite table on line `ly`, if it is on the screen and covers the line (R364). -/
def State.spriteRow (s : State) (ly i : Nat) : Option SpriteRow :=
  let entry := s.params.map.spriteFirst + 4 * i
  let y := s.rawGet entry
  let xpos := s.rawGet (entry + 1)
  let tile := s.rawGet (entry + 2)
  let attr := s.rawGet (entry + 3)
  let h := s.spriteHeight
  if y.toNat = 0 ∨ 160 ≤ y.toNat ∨ xpos.toNat = 0 ∨ 168 ≤ xpos.toNat then none
  else if ly + 16 < y.toNat ∨ y.toNat + h ≤ ly + 16 then none
  else
    let row := ly + 16 - y.toNat
    let line := if bitAt attr 6 then h - 1 - row else row
    let first := if h = 16 then tile &&& 0xFE else tile
    let addr := 0x8000 + first.toNat * 16 + line * 2
    some ⟨xpos, attr, s.rawGet addr, s.rawGet (addr + 1)⟩

/-- The sprites of a line, in table order; none while `LCDC[1]` is 0 (R364). -/
def State.lineSprites (s : State) (ly : Nat) : List SpriteRow :=
  if s.ioBit .LCDC 1 then (List.range 40).filterMap (s.spriteRow ly) else []

/-- The colour index the sprite has at screen column `x`; 0, transparent, where it does not reach (R365). -/
def SpriteRow.index (r : SpriteRow) (x : Nat) : Shade :=
  if r.xpos.toNat ≤ x + 8 ∧ x < r.xpos.toNat then
    let p := x + 8 - r.xpos.toNat
    planeIndex r.lo r.hi (if bitAt r.attr 5 then p else 7 - p)
  else 0

/-- A sprite's pixel drawn over the shade `sh` (R365). -/
def State.spriteOver (s : State) (bg : Shade) (x : Nat) (sh : Shade) (r : SpriteRow) : Shade :=
  let idx := r.index x
  if idx = 0 then sh
  else if bitAt r.attr 7 ∧ bg ≠ 0 then sh
  else paletteShade (s.ioGet (if bitAt r.attr 4 then .OBP1 else .OBP0)) idx

/-- The shade of a pixel: the background pass, then the sprites in table order (R360). -/
def State.pixelShade (s : State) (sprites : List SpriteRow) (ly x : Nat) : Shade :=
  sprites.foldl (s.spriteOver (s.bgIndex ly x) x) (s.bgShade ly x)

/-- The 160 shades of a line (R360). -/
def State.scanline (s : State) (ly : Nat) : PixelRow :=
  (List.range Config.lineWidth).map (s.pixelShade (s.lineSprites ly) ly)

/-- `render_scanline(ly)`: the renderer writes that line of the back buffer and nothing else (R360). -/
def State.renderScanline (s : State) (ly : Nat) : State :=
  s.setBack (Sparse.write (fun _ => blankRow) s.back ly (s.scanline ly))

/-- The pixel of a picture. -/
def pixelAt (p : Picture) (ly x : Nat) : Shade := (Sparse.read (fun _ => blankRow) p ly).getD x 0

/-! ## The mode machine -/

/-- `T(mode)`: the cycles spent in a mode, per line in VBlank (R350). -/
def LcdMode.budget : LcdMode → Nat
  | .oamScan => 80 | .pixelTransfer => 172 | .hBlank => 204 | .vBlank => 456

/-- The code of a mode in `STAT[1:0]` (R44, R350). -/
def LcdMode.code : LcdMode → Byte
  | .hBlank => 0 | .vBlank => 1 | .oamScan => 2 | .pixelTransfer => 3

/-- `lcd_mode <- m; IO.STAT[1:0] <- code(m)`. -/
def State.enterMode (s : State) (m : LcdMode) : State :=
  (s.setLcdMode m).ioSet .STAT ((s.ioGet .STAT &&& 0xFC) ||| m.code)

/-- `if IO.STAT[k] = 1: IO.IF[1] <- 1`. -/
def State.requestLcd (s : State) (k : Nat) : State :=
  if s.ioBit .STAT k then s.raiseBit .IF IntSource.lcd.bit else s

/-- `IO.LY`, the scanline counter (R46), a byte. That counting it up from 255 gives 0 is a DESIGN CHOICE
(notes/assumptions/20.md). -/
def State.ly (s : State) : Byte := s.ioGet .LY

/-- `IO.LY <- v`. -/
def State.setLy (s : State) (v : Byte) : State := s.ioSet .LY v

/-- `compare_ly()` (R356). -/
def State.compareLy (s : State) : State :=
  let stat := s.ioGet .STAT
  if s.ly = s.ioGet .LYC then
    (s.ioSet .STAT (withBit stat 2 true)).requestLcd 6
  else s.ioSet .STAT (withBit stat 2 false)

/-- `frame <- back; frame_ready <- 1` (R357). -/
def State.publishFrame (s : State) : State := (s.setFrame s.back).setFrameReady true

/-- Entry to OamScan with its request (R354, R355). -/
def State.enterOamScan (s : State) : State := (s.enterMode .oamScan).requestLcd 5

/-- Entry to VBlank: the request and the publication of the frame (R354). -/
def State.enterVBlank (s : State) : State :=
  ((s.enterMode .vBlank).raiseBit .IF IntSource.vBlank.bit).publishFrame

/-- The line is rendered on leaving HBlank; outside the visible lines it is skipped (R354). -/
def State.renderLine (s : State) : State :=
  if s.ly.toNat < Config.visibleLines then s.renderScanline s.ly.toNat else s

/-- The transition out of HBlank (R354). From LY = 255 the line counted up to is 0 (DESIGN CHOICE, notes/assumptions/20.md). -/
def State.leaveHBlank (s : State) : State :=
  let s1 := s.renderLine
  let s2 := (s1.setLy (s1.ly + 1)).compareLy
  if s2.ly.toNat = Config.visibleLines then s2.enterVBlank else s2.enterOamScan

/-- The end of a VBlank line (R355). DESIGN CHOICE (notes/assumptions/20.md): LY is a byte, so that from 255, which the
default parameters never reach, it counts up to 0; that is not past line 153, and VBlank goes on. R355 writes `IO.LY + 1`
without `u8`, and does not say whether 255 counts to 0 or to a number past 153. -/
def State.endVBlankLine (s : State) : State :=
  let s1 := s.setLy (s.ly + 1)
  if Config.lastLine < s1.ly.toNat then ((s1.setLy 0).compareLy).enterOamScan else s1.compareLy

/-- The one transition out of the current mode (R352 to R355). -/
def State.leaveMode (s : State) : State :=
  match s.lcdMode with
  | .oamScan => s.enterMode .pixelTransfer
  | .pixelTransfer => (s.enterMode .hBlank).requestLcd 3
  | .hBlank => s.leaveHBlank
  | .vBlank => s.endVBlankLine

/-- `display_advance(cycles)`: at most one transition, the remainder carried on (R351). -/
def State.displayAdvance (s : State) (cycles : Nat) : State :=
  let acc := s.lcdAcc + cycles
  if s.lcdMode.budget ≤ acc then (s.setLcdAcc (acc % s.lcdMode.budget)).leaveMode
  else s.setLcdAcc acc

end Machine
end Sys2Proof
end

