-- ==== Sys2Proof/Machine/Timer.lean ====
section
/-! DEFINITION. The interval timer (R330 to R337): the free-running counter, the falling-edge detector on one of its
bits, and the visible register with its one-cycle-delayed reload and interrupt request. -/

namespace Sys2Proof
namespace Machine

/-- Part (a) of a tick: the free-running counter counts, wrapping at 16 bits (R331). -/
def State.tickCounter (s : State) : State := s.setSyscnt (s.syscnt + 1)

/-- Part (b): a pending overflow reloads TIMA from TMA and requests the Timer interrupt, whether or not the timer is
enabled (R334). -/
def State.tickReload (s : State) : State :=
  if s.pendingOverflow then
    ((s.ioSet .TIMA (s.ioGet .TMA)).raiseBit .IF IntSource.timer.bit).setPendingOverflow
      false
  else s

/-- The counter bit that TAC selects (R332). -/
def State.tapBit (s : State) : Bool := s.syscnt.getLsbD (timerTap (s.ioGet .TAC))

/-- An increment of TIMA; a wrap sets the pending overflow (R333). -/
def State.countTima (s : State) : State :=
  let s1 := s.ioSet .TIMA (s.ioGet .TIMA + 1)
  if s1.ioGet .TIMA = 0 then s1.setPendingOverflow true else s1

/-- Part (c): with the timer enabled, sample the selected bit, count a fall, keep the sample; disabled, nothing
(R331, R332, R336). -/
def State.tickSample (s : State) : State :=
  if s.ioBit .TAC 2 then
    if s.lastSample && !s.tapBit then s.countTima.setLastSample s.tapBit else s.setLastSample s.tapBit
  else s

/-- One timer tick (R331). -/
def State.timerTick (s : State) : State := s.tickCounter.tickReload.tickSample

/-- `timer_advance(n)`: `n` ticks (R337). -/
def State.timerAdvance : State → Nat → State
  | s, 0 => s
  | s, n + 1 => s.timerTick.timerAdvance n

end Machine
end Sys2Proof
end

