-- ==== Sys2Proof/Machine/Sequencer.lean ====
section
/-! DEFINITION. The step (R320), the machine step (R321) and the end of a run (R322). -/

namespace Sys2Proof
namespace Machine

/-- The instruction at `PC`: its bytes are read through the mapped read; a read has no side effect, so that
reading three bytes for a shorter instruction changes nothing (R63, R103). -/
def State.instrAtPc (s : State) : Instr := s.params.instrOf (s.fetchByte 0) (s.fetchByte 1) (s.fetchByte 2)

/-- How many bytes the instruction at `PC` takes (R100). -/
def State.lengthAtPc (s : State) : Nat := s.params.lengthOf (s.fetchByte 0) (s.fetchByte 1) (s.fetchByte 2)

/-- What the table says the instruction at `PC` costs: `base_cycles` and `extra_cycles` (R117). -/
def State.costAtPc (s : State) : Nat × Nat := s.params.costOf (s.fetchByte 0) (s.fetchByte 1) (s.fetchByte 2)

/-- The count a step reports for an instruction (R320): `base_cycles`, and `extra_cycles` more for a taken conditional. A
meaning reports what its row of the standard table costs, so that a count `n` other than the row's base says that the
branch was taken. -/
def reportedCycles (cost : Nat × Nat) (i : Instr) (n : Nat) : Nat :=
  if n = i.baseCycles then cost.1 else cost.1 + cost.2

/-- What follows the operation of the instruction `i`: its count is reported and the end-of-instruction rule applied, but
not after the fatal exception, which ends the step at once (R300, R312, R320). -/
def State.finish (s : State) (cost : Nat × Nat) (i : Instr) : State :=
  if s.fault.isSome then s else (s.charge (reportedCycles cost i s.cycles)).endInstruction

/-- Fetch and execute one instruction: parts (3) to (6) of the step (R320). A hole of the extended page raises the fatal
exception (R300). -/
def State.executeOne (s : State) : Result :=
  if s.params.isHole (s.fetchByte 0) (s.fetchByte 1) then .next (s.raiseHole (s.fetchByte 0) (s.fetchByte 1))
  else match exec s.instrAtPc (s.setPc (s.pc + BitVec.ofNat 16 s.lengthAtPc)) with
  | .next t => .next (t.finish s.costAtPc s.instrAtPc)
  | .fault r => .fault r
  | .refused r => .refused r

/-- `step()`: one interrupt service, or one halted tick, or one instruction (R320). -/
def State.cpuStep (s : State) : Result :=
  match (if s.ime then s.pendingSource else none) with
  | some i => .next (s.serviceInterrupt i)
  | none => if s.halted then .next s.haltTick else s.executeOne

/-- The devices advance by the step's cycle count, the display first (R321). After the fatal exception no count is
reported and they do not advance (R300). -/
def State.advanceDevices (s : State) : State :=
  if s.fault.isSome then s else (s.displayAdvance s.cycles).timerAdvance s.cycles

/-- `machine_step()`, where a machine step is taken at all (R321, R322). -/
def State.machineStep (s : State) : Result :=
  match s.fault with
  | some u => .fault (.unimplementedOpcode u.pc0 u.bytes)
  | none =>
    if s.stopped then .fault .stopped
    else
      match s.cpuStep with
      | .next t => .next t.advanceDevices
      | .fault r => .fault r
      | .refused r => .refused r

end Machine
end Sys2Proof
end

