-- ==== Sys2Proof/Machine/Step.lean ====
section
/-! DEFINITION. The step of the machine, and the placing of an instruction where it is fetched next. -/

namespace Sys2Proof
namespace Machine

/-- One machine step (R321, R322). -/
def step (s : State) : Host.Outcome State Fault Refusal := s.machineStep

/-- The state `s` with the instruction of `nbits` bits `w`, numbered as the opcode table numbers it, stored where the
next step fetches it (notes/assumptions/8.md). -/
def State.withFetchWord (s : State) (nbits w : Nat) : State :=
  s.placeAtPc (tableBytes nbits w).1 (tableBytes nbits w).2.1 (tableBytes nbits w).2.2

end Machine
end Sys2Proof
end

