-- ==== Sys2Proof/Machine/Session.lean ====
section
/-! DEFINITION. The host interface (R380 to R386, R400): what the host supplies before the first machine step, what it
does between machine steps, what it reads, and a session, which keeps the two apart. An event that the interface does not
allow where it stands has no result: it is outside the model (U29 of spec/93). -/

namespace Sys2Proof
namespace Machine

/-! ## What the host reads -/

/-- The cells of an image whose first byte has index `k`, without those that hold the default. -/
def imageCells (dflt : Nat → Byte) : Nat → List Byte → Memory
  | _, [] => []
  | k, v :: vs => if v = dflt k then imageCells dflt (k + 1) vs else (k, v) :: imageCells dflt (k + 1) vs

/-- All the cells of an image whose first byte has index `k`. -/
def allCells : Nat → List Byte → Memory
  | _, [] => []
  | k, v :: vs => (k, v) :: allCells (k + 1) vs

/-- `SHADE_RGB[sh]` (R383). -/
def shadeRgb (t : ShadeColours) (sh : Shade) : Rgb :=
  if sh = 0 then t.shade0 else if sh = 1 then t.shade1 else if sh = 2 then t.shade2 else t.shade3

/-- The published picture as the host presents it, row by row (R383). -/
def State.rgbFrame (s : State) : List (List Rgb) :=
  (List.range Config.visibleLines).map fun y =>
    (List.range Config.lineWidth).map fun x => shadeRgb s.params.shadeRgb (pixelAt s.frame y x)

/-- What the host takes of the framebuffer: the picture when a frame is ready, else nothing (R383). -/
def State.readFrame (s : State) : Option Picture := if s.frameReady then some s.frame else none

/-- The diagnostic of the fatal exception (R385). -/
def State.faultReport (s : State) : Option UnimplementedOpcode := s.fault

/-- The logging stub of the serial port: SB and SC (R384). -/
def State.serialLog (s : State) : Byte × Byte := (s.ioGet .SB, s.ioGet .SC)

/-! ## Before the first machine step (R381) -/

/-- What the host may supply while no session runs. -/
inductive SetupAction where
  /-- Take these parameters (R8, R59). -/
  | supply (P : Params)
  /-- Supply the cartridge image (R381). -/
  | loadCartridge (image : List Byte)
  /-- Supply the boot overlay, exactly 256 bytes (R381). -/
  | loadBoot (image : List Byte)
  /-- Preset a byte of a plain region; reset is applied after it and gives the byte its reset value (R381, R400). -/
  | preset (a : Word) (v : Byte)
  deriving DecidableEq, Repr

/-- The state after what the host supplies; none where the interface does not allow it. -/
def SetupAction.apply (act : SetupAction) (s : State) : Option State :=
  match act with
  | .supply P => some (s.setParams P)
  | .loadCartridge image => some (s.setRom (imageCells (fun _ => Config.romPastEnd) 0 image))
  | .loadBoot image => if image.length = 256 then some (s.setBoot (allCells 0 image)) else none
  | .preset a v => if s.params.map.isPlain a.toNat then some (s.rawSet a.toNat v) else none

/-- `reset(profile)`: every item of R58 takes its value, parameters and images stay (R400). -/
def State.resetWith (s : State) (p : Profile) : State := ((State.initial s.params p).setRom s.rom).setBoot s.boot

/-- Reset as the host applies it. A host that has supplied no overlay image must use profile `postboot`; profile `boot`
is refused to it (R67, R401, U11 of spec/93). -/
def State.hostReset (s : State) (p : Profile) : Option State :=
  if p = .boot ∧ s.boot = [] then none else some (s.resetWith p)

/-! ## Between machine steps (R383 to R386) -/

/-- What the host may do to the state of a running session. -/
inductive HostAction where
  /-- Read `frame`, then clear `frame_ready` (R383). -/
  | takeFrame
  /-- Present key state in JOYP (R384). -/
  | writeJoyp (v : Byte)
  /-- Request the Serial interrupt (R305, R384). -/
  | requestSerial
  /-- Request the Input interrupt (R305, R384). -/
  | requestInput
  /-- Leave the stopped state (R386). -/
  | resume
  deriving DecidableEq, Repr

/-- The state after an action of the host; none where the interface does not allow it. -/
def HostAction.apply (act : HostAction) (s : State) : Option State :=
  match act with
  | .takeFrame => if s.frameReady then some (s.setFrameReady false) else none
  | .writeJoyp v => some (s.ioSet .JOYP v)
  | .requestSerial => some (s.raiseBit .IF IntSource.serial.bit)
  | .requestInput => some (s.raiseBit .IF IntSource.input.bit)
  | .resume => if s.stopped then some (s.setStopped false) else none

/-! ## A session (R380 to R382) -/

/-- The machine and whether a session runs on it: whether reset has been applied since the host last supplied anything. -/
structure Session where
  machine : State
  running : Bool
  deriving DecidableEq, Repr

/-- What happens in the life of a machine. -/
inductive Event where
  /-- The host supplies something; only while no session runs (R381, R384). -/
  | setup (act : SetupAction)
  /-- The host applies reset: a session begins, or begins anew (R381, R400). -/
  | reset (p : Profile)
  /-- The host acts between two machine steps of a session (R383 to R386). -/
  | host (act : HostAction)
  /-- A machine step of a session (R321, R382). -/
  | machine
  /-- The host ceases to call: the session is over (R322). -/
  | close
  deriving DecidableEq, Repr

/-- The state that a step answers. -/
def nextState : Result → Option State
  | .next t => some t
  | .fault _ => none
  | .refused _ => none

/-- The session after an event; none where the event is not allowed or no machine step can be taken. DESIGN CHOICE
(notes/assumptions/18.md): after the fatal exception no machine step is taken, but the session goes on until it is closed,
and the host may act as between any two machine steps. R322 calls the state frozen and R385 the run over; neither says
whether R383 and R384 still hold then. Safe: the model allows more. -/
def Session.next (σ : Session) : Event → Option Session
  | .setup act => if σ.running then none else (act.apply σ.machine).map fun t => ⟨t, false⟩
  | .reset p => (σ.machine.hostReset p).map fun t => ⟨t, true⟩
  | .host act => if σ.running then (act.apply σ.machine).map fun t => ⟨t, true⟩ else none
  | .machine => if σ.running then (nextState (step σ.machine)).map fun t => ⟨t, true⟩ else none
  | .close => some ⟨σ.machine, false⟩

/-- The session after the events, in order. -/
def runSession : List Event → Session → Option Session
  | [], σ => some σ
  | e :: es, σ => (σ.next e).bind (runSession es)

end Machine
end Sys2Proof
end

