-- ==== Sys2Proof/Safety.lean ====
section
/-! DEFINITION. What a well-formed state is: the invariant that every machine step keeps, in the terms the statements
use. Every part is decidable. -/

namespace Sys2Proof

open Machine

/-- An address at which the backing array stores a byte: not the cartridge window, not the mirror, not the unusable
region (R32, R61). -/
def AddressMap.isStorage (m : AddressMap) (x : Nat) : Bool :=
  decide (0x8000 ≤ x) && decide (x ≤ 0xFFFF) && !isEcho x && !m.isUnusable x

/-- The descriptor's cost, taken or not, is below the shortest budget of a display mode. -/
def Descriptor.costOk (d : Descriptor) : Bool := decide (d.baseCycles + d.extraCycles < 80)

/-- The parameters are ones for which a step never owes two display transitions (R351, R423): every count a step can report
is below the shortest budget; and LY starts on a line of the frame. The defaults are. -/
def Params.ok (P : Params) : Bool :=
  decide (P.intDispatchCycles < 80) && decide (P.haltTickCycles < 80) && P.optable.primary.all (fun c => c.2.costOk)
    && P.optable.extended.all (fun c => c.2.all Descriptor.costOk) && decide (P.lcdResetLy.toNat ≤ Config.lastLine)

namespace Machine

/-- The backing array is canonical and lists storage only. -/
def State.rawOk (s : State) : Bool := Memory.wf s.raw && s.raw.all (fun c => s.params.map.isStorage c.1)

/-- The images are canonical, and the overlay image lies below its end. -/
def State.imagesOk (s : State) : Bool :=
  Sparse.canonical (fun _ => Config.romPastEnd) s.rom && Sparse.rising s.boot
    && s.boot.all (fun c => decide (c.1 ≤ Config.bootLast))

/-- A picture is canonical, lists visible lines only, and every listed line has its full width. -/
def Picture.ok (p : Picture) : Bool :=
  Sparse.canonical (fun _ => blankRow) p
    && p.all (fun c => decide (c.1 < Config.visibleLines) && decide (c.2.length = Config.lineWidth))

/-- The bank register never holds 0 (R34, R81). -/
abbrev State.bankOk (s : State) : Prop := s.cartBank ≠ 0

/-- `IO.STAT[1:0]` is the code of the display mode (R36, R358c). -/
abbrev State.statOk (s : State) : Prop := s.ioGet .STAT &&& 0x03 = s.lcdMode.code

/-- The accumulator is below the budget of the mode (R351). -/
abbrev State.accOk (s : State) : Prop := s.lcdAcc < s.lcdMode.budget

/-- LY is 0 to 153, and a visible line outside VBlank (R46, R358d). -/
abbrev State.lyOk (s : State) : Prop :=
  (s.ioGet .LY).toNat ≤ Config.lastLine
    ∧ (s.lcdMode = .vBlank ∨ (s.ioGet .LY).toNat < Config.visibleLines)

/-- The invariant of the machine. -/
def State.Inv (s : State) : Prop :=
  s.rawOk = true ∧ s.imagesOk = true ∧ Picture.ok s.back = true ∧ Picture.ok s.frame = true ∧ s.bankOk
    ∧ s.statOk ∧ s.accOk ∧ s.lyOk ∧ s.params.ok = true

/-- A state from which a machine step is taken: not faulted and not stopped (R322). -/
def State.running (s : State) : Bool := s.fault.isNone && !s.stopped

end Machine
end Sys2Proof
end

