-- ==== Sys2Proof/Certificates/Slice0/Obligations.lean ====
section
/-! DEFINITION. The statements for the provers. The first part defines the words they are written in: what a
statement says an instruction keeps, what a store touches, and what an instruction answers. The second part is
the statements, each with the rule of the spec it formalises. -/

namespace Sys2Proof
namespace Stated

open Machine

/-- The instruction answers a next state, of which `P` holds. -/
def Completes (i : Instr) (s : State) (P : State → Prop) : Prop := ∃ t, exec i s = .next t ∧ P t

/-- Every 8-bit register but those listed keeps its value. -/
def RegsKept (except : List Reg8) (s t : State) : Prop := ∀ r, r ∉ except → t.getReg8 r = s.getReg8 r

/-- The CPU's control state is as before: halted, stopped, the fault latch, the master enable and its delay. -/
def ControlKept (s t : State) : Prop :=
  t.halted = s.halted ∧ t.stopped = s.stopped ∧ t.fault = s.fault ∧ t.ime = s.ime ∧ t.imeDelay = s.imeDelay

/-- What no instruction writes, whatever it stores: the parameters and images, the timer's pending overflow, and the
display's mode, accumulator, buffers and flag. -/
def DisplayKept (s t : State) : Prop :=
  t.params = s.params ∧ t.rom = s.rom ∧ t.boot = s.boot ∧ t.pendingOverflow = s.pendingOverflow ∧ t.lcdMode = s.lcdMode
    ∧ t.lcdAcc = s.lcdAcc ∧ t.back = s.back ∧ t.frame = s.frame ∧ t.frameReady = s.frameReady

/-- Nothing is stored: every byte of memory reads as before, the backing array is as before, and so are the latches a
store can reach. -/
def NothingStored (s t : State) : Prop :=
  (∀ a : Word, t.memRead a = s.memRead a) ∧ (∀ x : Nat, t.rawGet x = s.rawGet x)
    ∧ t.bootActive = s.bootActive ∧ t.cartBank = s.cartBank ∧ t.lastSample = s.lastSample ∧ DisplayKept s t

/-- The byte at `y` can read differently after a mapped write at `x`: the byte itself, its mirror, the other byte of
the counter, the sprite table after a DMA trigger, the low addresses after the overlay is turned off, and the banked
window after a bank select (R64, R65, R72, R78, R81). Nothing is stored below 0x8000 or in the unusable region. -/
def Touches (m : AddressMap) (x y : Word) : Prop :=
  (0x8000 ≤ x.toNat ∧ y = x)
    ∨ (0xE000 ≤ x.toNat ∧ x.toNat ≤ 0xFDFF ∧ y.toNat = x.toNat - 0x2000)
    ∨ (0xC000 ≤ x.toNat ∧ x.toNat ≤ 0xDDFF ∧ y.toNat = x.toNat + 0x2000)
    ∨ (x.toNat = m.addr .DIVLO ∧ y.toNat = m.addr .DIV) ∨ (x.toNat = m.addr .DIV ∧ y.toNat = m.addr .DIVLO)
    ∨ (x.toNat = m.addr .DMA ∧ m.bounds.spriteTable.first ≤ y.toNat ∧ y.toNat ≤ m.bounds.spriteTable.last)
    ∨ (x.toNat = m.addr .BOOTOFF ∧ y.toNat ≤ 0x00FF)
    ∨ (0x2000 ≤ x.toNat ∧ x.toNat ≤ 0x3FFF ∧ 0x4000 ≤ y.toNat ∧ y.toNat ≤ 0x7FFF)

/-- Bytes are stored through the mapped write at the addresses `as` and nowhere else: every byte that no such store
touches reads as before, and a latch that no such store reaches is as before. -/
def StoresOnlyAt (as : List Word) (s t : State) : Prop :=
  let m := s.params.map
  (∀ y : Word, (∀ a ∈ as, ¬ Touches m a y) → t.memRead y = s.memRead y)
    ∧ ((∀ a ∈ as, a.toNat ≠ m.addr .BOOTOFF) → t.bootActive = s.bootActive)
    ∧ ((∀ a ∈ as, ¬ (0x2000 ≤ a.toNat ∧ a.toNat ≤ 0x3FFF)) → t.cartBank = s.cartBank)
    ∧ ((∀ a ∈ as, a.toNat ≠ m.addr .DIVLO ∧ a.toNat ≠ m.addr .DIV ∧ a.toNat ≠ m.addr .TAC) → t.lastSample = s.lastSample)
    ∧ DisplayKept s t

/-- Memory and the latches a store can reach are those of `u`. -/
def MemoryOf (u t : State) : Prop :=
  (∀ y : Word, t.memRead y = u.memRead y) ∧ (∀ x : Nat, t.rawGet x = u.rawGet x) ∧ t.bootActive = u.bootActive
    ∧ t.cartBank = u.cartBank ∧ t.lastSample = u.lastSample

/-- One byte `v` is stored at `a` (R64). -/
def StoresByte (a : Word) (v : Byte) (s t : State) : Prop := MemoryOf (s.memWrite a v) t ∧ StoresOnlyAt [a] s t

/-- The word `v` is pushed: its high byte at `SP - 1`, then its low byte at `SP - 2`, and `SP` goes down by two (R12). -/
def PushesWord (v : Word) (s t : State) : Prop :=
  MemoryOf ((s.memWrite (s.sp - 1) (BitVec.ofNat 8 (v.toNat / 256))).memWrite (s.sp - 2) (BitVec.ofNat 8 v.toNat)) t
    ∧ StoresOnlyAt [s.sp - 1, s.sp - 2] s t ∧ t.sp = s.sp - 2

/-- The word at `SP`, its low byte at the lower address (R12). -/
def WordAtSp (s : State) (v : Word) : Prop :=
  v.toNat = (s.memRead (s.sp + 1)).toNat * 256 + (s.memRead s.sp).toNat

/-- The address is one of storage that reads back what is stored: video, external and working RAM, the mirror, the
sprite table, high RAM and IE (R65, R68). -/
def Plain (m : AddressMap) (a : Word) : Prop :=
  0x8000 ≤ a.toNat ∧ ¬ (m.bounds.unusable.first ≤ a.toNat ∧ a.toNat ≤ m.bounds.unusable.last)
    ∧ ¬ (m.bounds.io.first ≤ a.toNat ∧ a.toNat ≤ m.bounds.io.last)

/-- The address is one of a plain region, which the mirror is not (R61, R68). -/
def InPlainRegion (m : AddressMap) (a : Word) : Prop := Plain m a ∧ ¬ (0xE000 ≤ a.toNat ∧ a.toNat ≤ 0xFDFF)

/-- The address of a named I/O register (R40). -/
def regAt (s : State) (r : IoReg) : Word := BitVec.ofNat 16 (s.params.map.addr r)

/-- The tables are the standard ones: `OPTABLE` and `UNDEFINED_OPCODES` have their defaults (R8). -/
def StandardTables (P : Params) : Prop :=
  P.optable = Optable.standard
    ∧ P.undefinedOpcodes = [(0xD3 : Byte), 0xDB, 0xDD, 0xE3, 0xE4, 0xEB, 0xEC, 0xED, 0xF4, 0xFC, 0xFD]

/-- The instruction that the tables select for the bytes at `PC` (R103, R320). -/
def fetched (s : State) : Instr := s.params.instrOf (s.memRead s.pc) (s.memRead (s.pc + 1)) (s.memRead (s.pc + 2))

/-- How many bytes it takes. -/
def fetchedLength (s : State) : Nat := s.params.lengthOf (s.memRead s.pc) (s.memRead (s.pc + 1)) (s.memRead (s.pc + 2))

/-- What it costs: the base, and what a taken branch costs more (R117). -/
def fetchedCost (s : State) : Nat × Nat := s.params.costOf (s.memRead s.pc) (s.memRead (s.pc + 1)) (s.memRead (s.pc + 2))

/-- The bytes at `PC` are the prefix and a byte for which the extended page has no entry (R300). -/
def AtHole (s : State) : Prop :=
  s.memRead s.pc = 0xCB ∧ s.params.optable.extended.lookup (s.memRead (s.pc + 1)) = some none

/-- The frame of an instruction that stores nothing and writes no register but those listed: the control state is kept
as well. Flags, `SP` and `PC` are said apart. -/
def Quiet (except : List Reg8) (s t : State) : Prop :=
  RegsKept except s t ∧ ControlKept s t ∧ NothingStored s t

/-- The state is one from which the next machine step fetches an instruction: no fault, not stopped, not halted, and no
interrupt serviced first (R320, R322). -/
def Fetches (s : State) : Prop :=
  s.fault = none ∧ s.stopped = false ∧ s.halted = false ∧ (s.ime = false ∨ s.pendingSource = none)

/-- The borrow or carry an accumulator operation takes in (R175 to R199). -/
def carryIn (op : AluOp) (s : State) : Nat :=
  match op with
  | .adc | .sbc => if s.flags.cf then 1 else 0
  | .add | .sub | .and | .xor | .or | .cp => 0

/-- What an accumulator operation on `v` leaves in `A` and the flags, in numbers (R175 to R199). -/
def AluOutcome (op : AluOp) (s : State) (v : Byte) (t : State) : Prop :=
  let a := s.a.toNat
  let b := v.toNat
  let c := carryIn op s
  match op with
  | .add | .adc =>
    t.a.toNat = (a + b + c) % 256 ∧ (t.flags.z = true ↔ t.a = 0) ∧ t.flags.n = false
      ∧ (t.flags.hf = true ↔ a % 16 + b % 16 + c > 15) ∧ (t.flags.cf = true ↔ a + b + c > 255)
  | .sub | .sbc =>
    t.a.toNat = (a + 256 - (b + c)) % 256 ∧ (t.flags.z = true ↔ t.a = 0) ∧ t.flags.n = true
      ∧ (t.flags.hf = true ↔ a % 16 < b % 16 + c) ∧ (t.flags.cf = true ↔ a < b + c)
  | .cp =>
    t.a = s.a ∧ (t.flags.z = true ↔ s.a = v) ∧ t.flags.n = true
      ∧ (t.flags.hf = true ↔ a % 16 < b % 16) ∧ (t.flags.cf = true ↔ a < b)
  | .and =>
    (∀ k, t.a.getLsbD k = (s.a.getLsbD k && v.getLsbD k)) ∧ (t.flags.z = true ↔ t.a = 0) ∧ t.flags.n = false
      ∧ t.flags.hf = true ∧ t.flags.cf = false
  | .xor =>
    (∀ k, t.a.getLsbD k = (s.a.getLsbD k ^^ v.getLsbD k)) ∧ (t.flags.z = true ↔ t.a = 0) ∧ t.flags.n = false
      ∧ t.flags.hf = false ∧ t.flags.cf = false
  | .or =>
    (∀ k, t.a.getLsbD k = (s.a.getLsbD k || v.getLsbD k)) ∧ (t.flags.z = true ↔ t.a = 0) ∧ t.flags.n = false
      ∧ t.flags.hf = false ∧ t.flags.cf = false

/-- An accumulator operation on the value `v`, reporting `n` cycles: its result, and its frame. -/
def AluCompletes (i : Instr) (op : AluOp) (s : State) (v : Byte) (n : Nat) : Prop :=
  Completes i s fun t =>
    AluOutcome op s v t ∧ Quiet [.A] s t ∧ t.sp = s.sp ∧ t.pc = s.pc ∧ t.cycles = n

/-- The bit `k` of the result of a rotate or shift of `v`, for `k` below 8 (R235 to R250). -/
def shiftedBit (op : ShiftOp) (v : Byte) (cf : Bool) (k : Nat) : Bool :=
  match op with
  | .rlc => if k = 0 then v.getLsbD 7 else v.getLsbD (k - 1)
  | .rrc => if k = 7 then v.getLsbD 0 else v.getLsbD (k + 1)
  | .rl => if k = 0 then cf else v.getLsbD (k - 1)
  | .rr => if k = 7 then cf else v.getLsbD (k + 1)
  | .sla => if k = 0 then false else v.getLsbD (k - 1)
  | .sra => if k = 7 then v.getLsbD 7 else v.getLsbD (k + 1)
  | .swap => v.getLsbD ((k + 4) % 8)
  | .srl => if k = 7 then false else v.getLsbD (k + 1)

/-- The bit a rotate or shift moves out; SWAP moves none (R230). -/
def movedOut (op : ShiftOp) (v : Byte) : Bool :=
  match op with
  | .rlc | .rl | .sla => v.getLsbD 7
  | .rrc | .rr | .sra | .srl => v.getLsbD 0
  | .swap => false

/-- `r` is the result of the rotate or shift of `v`. -/
def IsShifted (op : ShiftOp) (v : Byte) (cf : Bool) (r : Byte) : Prop :=
  ∀ k, k < 8 → r.getLsbD k = shiftedBit op v cf k

/-- The flags are `z`, 0, 0 and the bit moved out (R230). -/
def ShiftFlags (op : ShiftOp) (v : Byte) (z : Prop) (f : Flags) : Prop :=
  (f.z = true ↔ z) ∧ f.n = false ∧ f.hf = false ∧ f.cf = movedOut op v

/-- `r` is `v` with its bit `b` made `x`. -/
def IsWithBit (v : Byte) (b : Nat) (x : Bool) (r : Byte) : Prop :=
  ∀ k, r.getLsbD k = if k = b then x else v.getLsbD k

/-- The condition holds of the flags (R107). -/
def CondHolds (c : Cond) (f : Flags) : Prop :=
  match c with
  | .NZ => f.z = false
  | .Z => f.z = true
  | .NC => f.cf = false
  | .C => f.cf = true

/-- The packed byte of two BCD digits. -/
def bcd (tens ones : Nat) : Byte := BitVec.ofNat 8 (16 * tens + ones)

/-- The free-running counter, in its two bytes (R35, R51). -/
def counter (s : State) : Nat := (s.ioGet .DIV).toNat * 256 + (s.ioGet .DIVLO).toNat

/-- The timer is enabled with the tap at bit `k` (R54, R332). -/
def TapIs (s : State) (k : Nat) : Prop :=
  (s.ioGet .TAC).getLsbD 2 = true
    ∧ k = (match (s.ioGet .TAC).toNat % 4 with | 0 => 9 | 1 => 3 | 2 => 5 | _ => 7)

/-- STAT shows the mode code, bit 2 is `same`, and its other bits are as before (R44). -/
def StatBecomes (s t : State) (code : Nat) (same : Bool) : Prop :=
  (t.ioGet .STAT).toNat % 4 = code ∧ (t.ioGet .STAT).getLsbD 2 = same
    ∧ ∀ k, 3 ≤ k → (t.ioGet .STAT).getLsbD k = (s.ioGet .STAT).getLsbD k

/-- The LCD request is made if `lcd`, the VBlank request if `vblank`; the other bits of IF are as before (R41). -/
def Requests (s t : State) (lcd vblank : Bool) : Prop :=
  ∀ k, (t.ioGet .IF).getLsbD k = ((s.ioGet .IF).getLsbD k || (decide (k = 1) && lcd) || (decide (k = 0) && vblank))

/-- The display controller writes its own state and STAT, LY and IF, and nothing else (R79, R350). -/
def DisplayOnly (s t : State) : Prop :=
  RegsKept [] s t ∧ ControlKept s t ∧ t.flags = s.flags ∧ t.sp = s.sp ∧ t.pc = s.pc ∧ t.cycles = s.cycles
    ∧ t.params = s.params ∧ t.rom = s.rom ∧ t.boot = s.boot ∧ t.bootActive = s.bootActive ∧ t.cartBank = s.cartBank
    ∧ t.lastSample = s.lastSample ∧ t.pendingOverflow = s.pendingOverflow
    ∧ ∀ x : Nat, x ≠ s.params.map.addr .STAT → x ≠ s.params.map.addr .LY → x ≠ s.params.map.addr .IF →
        t.rawGet x = s.rawGet x

end Stated
end Sys2Proof

open Sys2Proof Machine Stated

/-! ## Encoding -/

/-- R101, R103, R112, R113: decoding the bytes of a well-formed instruction gives it back, with the bytes after it. -/
def Obligations.DecodeOfEncodeReturnsTheInstruction : Prop :=
  ∀ (i : Instr) (rest : List Byte), i.wellFormed = true → decode (encode i ++ rest) = .ok (i, rest)

/-- R103, R114, R115: any three bytes decode to a well-formed instruction whose bytes are the first one, two or three
of them. -/
def Obligations.EncodeOfDecodeReturnsTheBytes : Prop :=
  ∀ b0 b1 b2 : Byte, (decodeBytes b0 b1 b2).wellFormed = true
    ∧ encode (decodeBytes b0 b1 b2) = [b0, b1, b2].take (decodeBytes b0 b1 b2).length
    ∧ 1 ≤ (decodeBytes b0 b1 b2).length ∧ (decodeBytes b0 b1 b2).length ≤ 3

/-- Words of the spec's own encodings, one for each family. -/
def Obligations.SpecWordsDecode : Prop :=
  decodeBytes 0x41 0 0 = .ld_B_C ∧ decodeBytes 0x36 0x42 0 = .ld_mHL_n 0x42
    ∧ decodeBytes 0xEA 0x34 0x12 = .ld_mnn_A 0x1234 ∧ decodeBytes 0xF8 0xFE 0 = .ld_HL_SPe 0xFE
    ∧ decodeBytes 0xD5 0 0 = .push_DE ∧ decodeBytes 0x9E 0 0 = .sbc_A_mHL ∧ decodeBytes 0x39 0 0 = .add_HL_SP
    ∧ decodeBytes 0xCB 0x37 0 = .swap_A ∧ decodeBytes 0xCB 0xDB 0 = .set_3_E ∧ decodeBytes 0xDC 0x00 0x40 = .call_C_nn 0x4000
    ∧ decodeBytes 0x30 0x80 0 = .jr_NC_e 0x80 ∧ decodeBytes 0x10 0xD3 0 = .stop 0xD3 ∧ decodeBytes 0xED 0 0 = .undefined 0xED

/-- R114: the undefined opcodes are exactly the eleven values of the first byte, and as a second byte after the prefix
they are ordinary. -/
def Obligations.UndefinedOpcodesAreExactlyEleven : Prop :=
  (∀ b0 b1 b2 op : Byte, decodeBytes b0 b1 b2 = .undefined op ↔
      b0 = op ∧ op ∈ [(0xD3 : Byte), 0xDB, 0xDD, 0xE3, 0xE4, 0xEB, 0xEC, 0xED, 0xF4, 0xFC, 0xFD])
    ∧ ∀ b1 b2 op : Byte, decodeBytes 0xCB b1 b2 ≠ .undefined op

/-! ## Reset and the invariant -/

/-- The invariant holds after reset, with either profile and with any parameters whose cycle counts stay below the
shortest display budget and whose LY starts on a line of the frame. -/
def Obligations.InvariantHoldsAfterReset : Prop :=
  State.reset.Inv ∧ ∀ (P : Params) (p : Profile), P.ok = true → (State.initial P p).Inv

/-- R36, R46, R81, R358: every machine step keeps the invariant: memory, images and pictures stay canonical, the bank
register is never 0, STAT shows the mode, the accumulator stays below the mode's budget, LY stays in range. -/
def Obligations.InvariantKeptByEveryStep : Prop :=
  ∀ s s' : State, s.Inv → step s = .next s' → s'.Inv

/-- R58: every item of the reset table, for both profiles and any parameters: RAM holds `INIT_RAM` and LY holds
`LCD_RESET_LY`; with the default parameters every byte is 0x00 but STAT, and the default profile is `boot`. That LY is
`LCD_RESET_LY` with profile `postboot` too, where R58's column says 0 and R400 does not tell the profiles apart, is the
model's DESIGN CHOICE (log entry 4). -/
def Obligations.ResetGivesTheTableValues : Prop :=
  State.reset = State.initial Params.standard .boot
    ∧ (∀ (p : Profile) (x : Nat), (State.initial Params.standard p).rawGet x = if x = 0xFF41 then 0x01 else 0x00)
    ∧ ∀ P : Params,
      (let s := State.initial P .boot
       s.a = 0x00 ∧ s.b = 0x00 ∧ s.c = 0x00 ∧ s.d = 0x00 ∧ s.e = 0x00 ∧ s.h = 0x00 ∧ s.l = 0x00
        ∧ s.flags = ⟨false, false, false, false⟩ ∧ s.sp = 0x0000 ∧ s.pc = 0x0000 ∧ s.bootActive = true)
      ∧ (let s := State.initial P .postboot
         s.a = 0x01 ∧ s.b = 0x00 ∧ s.c = 0x13 ∧ s.d = 0x00 ∧ s.e = 0xD8 ∧ s.h = 0x01 ∧ s.l = 0x4D
          ∧ s.flags = ⟨true, false, true, true⟩ ∧ s.sp = 0xFFFE ∧ s.pc = 0x0100 ∧ s.bootActive = false)
      ∧ ∀ p, let s := State.initial P p
         s.ime = false ∧ s.imeDelay = 0 ∧ s.halted = false ∧ s.stopped = false ∧ s.fault = none ∧ s.cartBank = 1
          ∧ counter s = 0 ∧ s.lastSample = false ∧ s.pendingOverflow = false ∧ s.lcdMode = .vBlank ∧ s.lcdAcc = 0
          ∧ s.ioGet .LY = P.lcdResetLy ∧ s.ioGet .STAT = 0x01
          ∧ (∀ r : IoReg, r ≠ .LY → r ≠ .STAT → s.ioGet r = 0x00)
          ∧ (∀ x : Nat, P.map.isInitRam x = true → s.rawGet x = (Sparse.find P.initRam x).getD 0x00)
          ∧ (∀ y x : Nat, pixelAt s.back y x = 0 ∧ pixelAt s.frame y x = 0) ∧ s.frameReady = false ∧ s.params = P

/-! ## The step -/

/-- R320, R321, R103, R117: when the next step fetches an instruction, and the extended page has no hole there, it is the one
the tables select for the bytes at `PC`, executed with `PC` past its bytes; then its cost is reported, with the extra cycles
when its branch was taken, the end-of-instruction rule applied, and the display and the timer advanced by that count; after
the fatal exception the step ends at once. With the standard tables that is the decoded instruction and the count its
meaning reports. An entry that `OPTABLE` lists is the operation it names, at the cost it names; every byte that it does not
list is the standard table's, in operation, length and cost, but for the bytes of `UNDEFINED_OPCODES`, which have none. That `OPTABLE` lists only the entries that differ, and that a
listed entry's count is its base, or its base and extra where the meaning reports other than its row's base, is the model's
DESIGN CHOICE (log entry 13). -/
def Obligations.StepRunsTheDecodedInstruction : Prop :=
  (∀ s : State, Fetches s → ¬ AtHole s → ∃ t, exec (fetched s) (s.setPc (s.pc + BitVec.ofNat 16 (fetchedLength s))) = .next t
      ∧ (t.fault = none → ∀ n, (t.cycles = (fetched s).baseCycles → n = (fetchedCost s).1) →
          (t.cycles ≠ (fetched s).baseCycles → n = (fetchedCost s).1 + (fetchedCost s).2) →
          step s = .next (((t.setCycles n).endInstruction.displayAdvance n).timerAdvance n))
      ∧ (t.fault ≠ none → step s = .next t))
    ∧ (∀ (s : State) (i : Instr) (rest : List Byte), Fetches s → StandardTables s.params →
        decode [s.memRead s.pc, s.memRead (s.pc + 1), s.memRead (s.pc + 2)] = .ok (i, rest) →
        ∃ t, exec i (s.setPc (s.pc + BitVec.ofNat 16 i.length)) = .next t
          ∧ (t.fault = none → step s = .next ((t.endInstruction.displayAdvance t.cycles).timerAdvance t.cycles))
          ∧ (t.fault ≠ none → step s = .next t))
    ∧ ∀ (P : Params) (b0 b1 b2 : Byte),
        (∀ d, b0 = 0xCB → P.optable.extended.lookup b1 = some (some d) →
          P.instrOf b0 b1 b2 = d.operation ∧ P.lengthOf b0 b1 b2 = 2 ∧ P.costOf b0 b1 b2 = (d.baseCycles, d.extraCycles))
        ∧ (b0 = 0xCB → P.optable.extended.lookup b1 = none →
          P.instrOf b0 b1 b2 = decodeBytes b0 b1 b2 ∧ P.lengthOf b0 b1 b2 = 2
            ∧ P.costOf b0 b1 b2 = ((decodeBytes b0 b1 b2).baseCycles, (decodeBytes b0 b1 b2).extraCycles))
        ∧ (∀ d, b0 ≠ 0xCB → b0 ∉ P.undefinedOpcodes → P.optable.primary.lookup b0 = some d →
          P.instrOf b0 b1 b2 = d.operation.withOperands b1 b2 ∧ P.costOf b0 b1 b2 = (d.baseCycles, d.extraCycles))
        ∧ (b0 ≠ 0xCB → b0 ∉ P.undefinedOpcodes → P.optable.primary.lookup b0 = none →
          P.instrOf b0 b1 b2 = decodeBytes b0 b1 b2 ∧ P.lengthOf b0 b1 b2 = (decodeBytes b0 b1 b2).length
            ∧ P.costOf b0 b1 b2 = ((decodeBytes b0 b1 b2).baseCycles, (decodeBytes b0 b1 b2).extraCycles))
        ∧ (b0 ≠ 0xCB → b0 ∈ P.undefinedOpcodes → P.instrOf b0 b1 b2 = .undefined b0)
        ∧ (b0 ≠ 0xCB → P.lengthOf b0 b1 b2 = 1 + (P.instrOf b0 b1 b2).operandBytes)
        ∧ (StandardTables P → P.instrOf b0 b1 b2 = decodeBytes b0 b1 b2
            ∧ P.lengthOf b0 b1 b2 = (decodeBytes b0 b1 b2).length
            ∧ P.costOf b0 b1 b2 = ((decodeBytes b0 b1 b2).baseCycles, (decodeBytes b0 b1 b2).extraCycles))

/-- R322: a machine step is taken from every state that is neither faulted nor stopped; from a faulted or stopped state
none is taken: the machine answers the diagnostic, which the host reads, or that it is stopped, and then the host may
clear `stopped`, after which a step is taken. -/
def Obligations.StepStopsOnlyWhenStuck : Prop :=
  ∀ s : State, (s.fault = none → s.stopped = false → ∃ t, step s = .next t)
    ∧ (∀ u, s.fault = some u → step s = .fault (.unimplementedOpcode u.pc0 u.bytes) ∧ s.faultReport = some u)
    ∧ (s.fault = none → s.stopped = true → step s = .fault .stopped
        ∧ ∃ t u, HostAction.resume.apply s = some t ∧ t = s.setStopped false ∧ step t = .next u)

/-- R62, R301, R117: every instruction, the undefined opcodes included, answers a next state in every state; only an
undefined opcode sets the fault latch; every operation reports its row's base cycles, or these and the extra cycles. -/
def Obligations.EveryInstructionCompletes : Prop :=
  ∀ (i : Instr) (s : State), ∃ t, exec i s = .next t ∧ ((∀ op, i ≠ .undefined op) → t.fault = s.fault)
    ∧ (isOperation i = true → t.cycles = i.baseCycles ∨ t.cycles = i.baseCycles + i.extraCycles)

/-- R300, R296: an undefined opcode records its address and byte in the latch; `PC` has advanced by one, nothing else
changes, the devices do not advance, and no further step is taken. By default there are eleven of them. A hole that
`OPTABLE` has in the extended page records both bytes; that `PC` has advanced by one there too, past the prefix alone, is
the model's inference (DEDUCED, log entry 19). By default the extended page has no hole. -/
def Obligations.UndefinedOpcodeIsFatal : Prop :=
  (∀ (op : Byte) (s : State), exec (.undefined op) s = .next (s.setFault (some ⟨s.pc - 1, [op]⟩)))
    ∧ (∀ (s : State) (op : Byte), Fetches s → s.memRead s.pc = op → op ∈ s.params.undefinedOpcodes → op ≠ 0xCB →
      ∃ t, step s = .next t ∧ t = (s.setPc (s.pc + 1)).setFault (some ⟨s.pc, [op]⟩)
        ∧ step t = .fault (.unimplementedOpcode s.pc [op]))
    ∧ (∀ (s : State) (b1 : Byte), Fetches s → s.memRead s.pc = 0xCB → s.memRead (s.pc + 1) = b1 →
      s.params.optable.extended.lookup b1 = some none →
      ∃ t, step s = .next t ∧ t = (s.setPc (s.pc + 1)).setFault (some ⟨s.pc, [0xCB, b1]⟩)
        ∧ step t = .fault (.unimplementedOpcode s.pc [0xCB, b1]))
    ∧ StandardTables Params.standard ∧ ∀ s : State, s.params.optable = Optable.standard → ¬ AtHole s

/-- R29, R26, R27, R312: IME and its delay are touched by EI, DI and RETI alone, `halted` by HALT alone, `stopped` by
STOP alone, and no instruction touches the images, the pending overflow or the display's own state. -/
def Obligations.ControlStateHasItsOwnInstructions : Prop :=
  ∀ (i : Instr) (s t : State), exec i s = .next t →
    (i ≠ .ei → i ≠ .di → i ≠ .reti → t.ime = s.ime ∧ t.imeDelay = s.imeDelay)
      ∧ (i ≠ .halt → t.halted = s.halted) ∧ ((∀ p, i ≠ .stop p) → t.stopped = s.stopped) ∧ DisplayKept s t

/-! ## Interrupts, halting -/

/-- R303, R304: the source serviced is the one of lowest number whose bit is set in both IF and IE; there is none
exactly when the low five bits of IF and IE share no set bit. -/
def Obligations.LowestRequestIsServiced : Prop :=
  ∀ s : State,
    (∀ i : IntSource, s.pendingSource = some i ↔
      ((s.ioGet .IF).getLsbD i.bit = true ∧ (s.ioGet .IE).getLsbD i.bit = true
        ∧ ∀ k, k < i.bit → ¬ ((s.ioGet .IF).getLsbD k = true ∧ (s.ioGet .IE).getLsbD k = true)))
    ∧ (s.pendingSource = none ↔ (s.ioGet .IF &&& s.ioGet .IE) &&& 0x1F = 0)

/-- R304, R310: with the master enable set, the source of lowest number whose bit is set in both IF and IE is serviced
by the step: its IF bit and no other is cleared, IME is cleared, the CPU wakes, `PC` is pushed through the mapped write,
execution goes to the source's vector, the dispatch cycles are reported, and the registers and flags are kept. By default
the vectors are 0x40, 0x48, 0x50, 0x58 and 0x60, and the cycles 20 (R8). -/
def Obligations.ServiceEntersTheHandler : Prop :=
  (∀ (s : State) (i : IntSource), s.fault = none → s.stopped = false → s.ime = true →
    (s.ioGet .IF).getLsbD i.bit = true → (s.ioGet .IE).getLsbD i.bit = true →
    (∀ k, k < i.bit → ¬ ((s.ioGet .IF).getLsbD k = true ∧ (s.ioGet .IE).getLsbD k = true)) →
    let n := s.params.intDispatchCycles
    ∃ t, step s = .next ((t.displayAdvance n).timerAdvance n)
      ∧ t.pc = (match i with
          | .vBlank => s.params.intVector.vBlank | .lcd => s.params.intVector.lcd | .timer => s.params.intVector.timer
          | .serial => s.params.intVector.serial | .input => s.params.intVector.input)
      ∧ t.ime = false ∧ t.imeDelay = 0 ∧ t.halted = false ∧ t.cycles = n
      ∧ RegsKept [] s t ∧ t.flags = s.flags ∧ t.stopped = s.stopped ∧ t.fault = s.fault
      ∧ ∃ f, IsWithBit (s.ioGet .IF) i.bit false f ∧ PushesWord s.pc (s.ioSet .IF f) t)
    ∧ Params.standard.intDispatchCycles = 20 ∧ Params.standard.intVector = ⟨0x0040, 0x0048, 0x0050, 0x0058, 0x0060⟩

/-- R320, R26: a halted step without service changes nothing in the CPU: it reports the halted tick's cycles, 4 by default
(R8), by which the devices advance. -/
def Obligations.HaltedStepTicksTheDevices : Prop :=
  (∀ s : State, s.fault = none → s.stopped = false → s.halted = true → (s.ime = false ∨ s.pendingSource = none) →
    let n := s.params.haltTickCycles
    step s = .next (((s.setCycles n).displayAdvance n).timerAdvance n))
    ∧ Params.standard.haltTickCycles = 4

/-- R315, R427: a CPU halted with the master enable clear stays halted for ever: after any number of machine steps it is
halted, and its registers, flags, `SP`, `PC` and master enable are as they were. -/
def Obligations.HaltWithoutMasterEnableNeverEnds : Prop :=
  ∀ (n : Nat) (s : State), s.fault = none → s.stopped = false → s.halted = true → s.ime = false →
    ∃ t : State, Sys2Proof.core.run n s = .next t ∧ t.halted = true ∧ t.ime = false ∧ RegsKept [] s t
      ∧ t.flags = s.flags ∧ t.sp = s.sp ∧ t.pc = s.pc

/-- R312, R420: the step that executes EI with IME clear leaves IME clear with one instruction to go; the next executed
instruction sets IME at its end, unless it is DI, which cancels the enable. EI is the byte FB and DI the byte F3. -/
def Obligations.EnableTakesEffectAfterTheNextInstruction : Prop :=
  (∀ s : State, Fetches s → s.ime = false → s.imeDelay = 0 → fetched s = .ei →
      ∃ t, step s = .next t ∧ t.ime = false ∧ t.imeDelay = 1 ∧ t.halted = false
        ∧ t.pc = s.pc + BitVec.ofNat 16 (fetchedLength s))
    ∧ (∀ s : State, Fetches s → s.imeDelay = 1 → fetched s ≠ .di → (∀ op, fetched s ≠ .undefined op) →
        ∃ t, step s = .next t ∧ t.ime = true ∧ t.imeDelay = 0)
    ∧ (∀ s : State, Fetches s → fetched s = .di → ∃ t, step s = .next t ∧ t.ime = false ∧ t.imeDelay = 0)
    ∧ ∀ s : State, StandardTables s.params → (s.memRead s.pc = 0xFB → fetched s = .ei ∧ fetchedLength s = 1)
        ∧ (s.memRead s.pc = 0xF3 → fetched s = .di)
        ∧ (fetched s = .di → s.memRead s.pc = 0xF3)
        ∧ ∀ op, fetched s = .undefined op → s.memRead s.pc ∈ s.params.undefinedOpcodes

/-! ## Memory -/

/-- R68, R65: a byte stored in video, external or working RAM, the mirror, the sprite table, high RAM or IE reads back. By
default the regions have the bounds of R61's table, and the plain ones are 0x8000 to 0xDFFF, 0xFE00 to 0xFE9F and 0xFF80 to
0xFFFF. -/
def Obligations.PlainStoresReadBack : Prop :=
  (∀ (s : State) (a : Word) (v : Byte), Plain s.params.map a → (s.memWrite a v).memRead a = v)
    ∧ Params.standard.map.bounds =
        ⟨⟨0x8000, 0x9FFF⟩, ⟨0xA000, 0xBFFF⟩, ⟨0xC000, 0xDFFF⟩, ⟨0xFE00, 0xFE9F⟩, ⟨0xFEA0, 0xFEFF⟩, ⟨0xFF00, 0xFF7F⟩,
          ⟨0xFF80, 0xFFFE⟩⟩
    ∧ ∀ a : Word, InPlainRegion AddressMap.standard a ↔
        (0x8000 ≤ a.toNat ∧ a.toNat ≤ 0xDFFF) ∨ (0xFE00 ≤ a.toNat ∧ a.toNat ≤ 0xFE9F) ∨ 0xFF80 ≤ a.toNat

/-- R64, R72, R78, R81: a mapped write changes no byte but those its address touches, and no latch but those its address
reaches; the CPU keeps everything. -/
def Obligations.StoreLeavesOtherBytesAlone : Prop :=
  ∀ (s : State) (a : Word) (v : Byte), StoresOnlyAt [a] s (s.memWrite a v) ∧ RegsKept [] s (s.memWrite a v)
    ∧ ControlKept s (s.memWrite a v) ∧ (s.memWrite a v).flags = s.flags ∧ (s.memWrite a v).sp = s.sp
    ∧ (s.memWrite a v).pc = s.pc

/-- R65: an access to an address of the mirror is the access 0x2000 lower, in working RAM: it reads alike, it writes
alike, and a write through either is seen through both; working RAM at 0xDE00 and above has no mirror. -/
def Obligations.EchoMirrorsWorkingRam : Prop :=
  ∀ (s : State) (a : Word) (v : Byte), 0xE000 ≤ a.toNat → a.toNat ≤ 0xFDFF →
    s.memRead a = s.memRead (a - 0x2000)
      ∧ s.memWrite a v = s.memWrite (a - 0x2000) v
      ∧ 0xC000 ≤ (a - 0x2000).toNat ∧ (a - 0x2000).toNat ≤ 0xDDFF
      ∧ (s.memWrite a v).memRead (a - 0x2000) = v ∧ (s.memWrite (a - 0x2000) v).memRead a = v
      ∧ ∀ w y : Word, 0xDE00 ≤ w.toNat → w.toNat ≤ 0xDFFF → y ≠ w → (s.memWrite w v).memRead y = s.memRead y

/-- R66: the unusable region, by default 0xFEA0 to 0xFEFF (R8, R61), reads 0xFF, and a write to it changes nothing at all. That an instruction fetched from it is RST 38H is an inference that R66 marks as its own, and stands here as the
model's: the byte it reads is that row of the standard table. -/
def Obligations.UnusableRegionReadsOnes : Prop :=
  (∀ (s : State) (a : Word) (v : Byte), s.params.map.bounds.unusable.first ≤ a.toNat →
      a.toNat ≤ s.params.map.bounds.unusable.last →
    s.memRead a = 0xFF ∧ s.memWrite a v = s ∧ ∀ b1 b2, decodeBytes (s.memRead a) b1 b2 = .rst_38H)
    ∧ Params.standard.map.bounds.unusable = ⟨0xFEA0, 0xFEFF⟩

/-- R81, R82, R83, R63, R67: a write below 0x8000 changes the bank register or nothing: a banked cartridge takes the low
five bits of a byte written to 0x2000..0x3FFF, 0 replaced by 1. The fixed window reads the image at the address, the
banked window at the bank's 16 KB; while the overlay is active the lowest 256 addresses read the overlay's byte. An image
too short to hold index 0x0147 counts as banked, since `romByte` reads 0xFF there: that is the model's DESIGN CHOICE (log
entry 2). -/
def Obligations.CartridgeWindowBanks : Prop :=
  ∀ (s : State) (a : Word) (v : Byte), a.toNat ≤ 0x7FFF →
    (s.memWrite a v = s.setCartBank (s.memWrite a v).cartBank)
      ∧ (s.romByte 0x0147 ≠ 0 → 0x2000 ≤ a.toNat → a.toNat ≤ 0x3FFF →
          (s.memWrite a v).cartBank.toNat = (if v.toNat % 32 = 0 then 1 else v.toNat % 32))
      ∧ (s.romByte 0x0147 = 0 ∨ a.toNat < 0x2000 ∨ 0x3FFF < a.toNat → (s.memWrite a v).cartBank = s.cartBank)
      ∧ (0x0100 ≤ a.toNat ∨ s.bootActive = false → a.toNat ≤ 0x3FFF → s.memRead a = s.romByte a.toNat)
      ∧ (a.toNat ≤ 0x00FF → s.bootActive = true → s.memRead a = s.bootByte a.toNat
          ∧ ∀ w, Sparse.find s.boot a.toNat = some w → s.memRead a = w)
      ∧ (0x4000 ≤ a.toNat → s.memRead a = s.romByte (s.cartBank.toNat * 0x4000 + (a.toNat - 0x4000)))

/-- R72, with R44, R46, R51, R54, R55, R71, R77: the side effects of writes in the I/O region, register by register; a
register's byte is what a mapped read of its address gives; by default the region is 0xFF00 to 0xFF7F (R61) and the
registers lie where R40 lists them. -/
def Obligations.IoWritesHaveTheirSideEffects : Prop :=
  (∀ (s : State) (v : Byte),
    let W := fun (r : IoReg) => s.memWrite (regAt s r) v
    (counter (W .DIVLO) = 0 ∧ (W .DIVLO).lastSample = false)
      ∧ (counter (W .DIV) = 0 ∧ (W .DIV).lastSample = false)
      ∧ ((W .TAC).ioGet .TAC = v
          ∧ (W .TAC).lastSample = (counter s).testBit (match v.toNat % 4 with | 0 => 9 | 1 => 3 | 2 => 5 | _ => 7))
      ∧ (∀ k, ((W .STAT).ioGet .STAT).getLsbD k = if k < 3 then (s.ioGet .STAT).getLsbD k else v.getLsbD k)
      ∧ W .LY = s
      ∧ ((W .BOOTOFF).ioGet .BOOTOFF = v ∧ (W .BOOTOFF).bootActive = (s.bootActive && decide (v = 0)))
      ∧ (W .DMA).ioGet .DMA = v
      ∧ (∀ a : Word, s.params.map.bounds.io.first ≤ a.toNat → a.toNat ≤ s.params.map.bounds.io.last →
          a ∉ [IoReg.DIVLO, .DIV, .TAC, .STAT, .LY, .DMA, .BOOTOFF].map (regAt s) → (s.memWrite a v).memRead a = v)
      ∧ ∀ r, s.memRead (regAt s r) = s.ioGet r)
    ∧ Params.standard.map.bounds.io = ⟨0xFF00, 0xFF7F⟩
    ∧ IoReg.all.map AddressMap.standard.addr =
        [0xFF00, 0xFF01, 0xFF02, 0xFF03, 0xFF04, 0xFF05, 0xFF06, 0xFF07, 0xFF0F, 0xFF40, 0xFF41, 0xFF42, 0xFF43, 0xFF44,
          0xFF45, 0xFF46, 0xFF47, 0xFF48, 0xFF49, 0xFF4A, 0xFF4B, 0xFF50, 0xFFFF]

/-- R78: a write of `v` to the DMA trigger copies the 160 bytes of page `v`, as the mapped read gives them, to the sprite
table, in ascending order, and changes nothing else but the trigger register. Where the page begins below the table and
reaches into it, the bytes of the page that lie in the table have been copied to when they are read. By default the table
is 0xFE00 to 0xFE9F (R8, R61), and no page does that. -/
def Obligations.DmaCopiesThePage : Prop :=
  (∀ (s : State) (v : Byte),
    let t := s.memWrite (regAt s .DMA) v
    let first := s.params.map.bounds.spriteTable.first
    let page := v.toNat * 256
    let src := fun (u : State) (i : Nat) => u.memRead (BitVec.ofNat 16 (page + i))
    (∀ i, i < 160 → t.memRead (BitVec.ofNat 16 (first + i)) =
        if page < first ∧ first ≤ page + i then src t i else src (s.ioSet .DMA v) i)
      ∧ (page + 160 ≤ first ∨ first ≤ page → ∀ i, i < 160 →
          t.memRead (BitVec.ofNat 16 (first + i)) = src (s.ioSet .DMA v) i)
      ∧ t.ioGet .DMA = v ∧ t.cycles = s.cycles
      ∧ ∀ y : Word, ¬ Touches s.params.map (regAt s .DMA) y → t.memRead y = s.memRead y)
    ∧ Params.standard.map.bounds.spriteTable = ⟨0xFE00, 0xFE9F⟩

/-- Two backing arrays in the canonical form that read alike are the same list. -/
def Obligations.CanonicalMemoriesAreDetermined : Prop :=
  ∀ m m' : Memory, Memory.wf m = true → Memory.wf m' = true →
    (∀ x, Sparse.read Config.resetByte m x = Sparse.read Config.resetByte m' x) → m = m'

/-! ## 8-bit loads -/

/-- R131, R132, R133, R136, R137, R140, R142, R144: the loads of a register, with their frame. -/
def Obligations.RegisterLoads : Prop :=
  ∀ (s : State) (d r : Reg8) (n : Byte) (nn : Word),
    let Loads := fun (i : Instr) (d : Reg8) (v : Byte) (c : Nat) => Completes i s fun t =>
      t.getReg8 d = v ∧ Quiet [d] s t ∧ t.flags = s.flags ∧ t.sp = s.sp ∧ t.pc = s.pc ∧ t.cycles = c
    Loads (rowLdRegReg d r) d (s.getReg8 r) 4 ∧ Loads (rowLdRegImm d n) d n 8
      ∧ Loads (rowLdRegMem d) d (s.memRead (joinBytes s.h s.l)) 8
      ∧ Loads .ld_A_mBC .A (s.memRead (joinBytes s.b s.c)) 8 ∧ Loads .ld_A_mDE .A (s.memRead (joinBytes s.d s.e)) 8
      ∧ Loads (.ld_A_mnn nn) .A (s.memRead nn) 16
      ∧ Loads (.ldh_A_mn n) .A (s.memRead (0xFF00 + n.setWidth 16)) 12
      ∧ Loads .ld_A_mC .A (s.memRead (0xFF00 + s.c.setWidth 16)) 8

/-- R134, R135, R138, R139, R141, R143, R145: the stores of a byte, with the address each stores to and their frame. -/
def Obligations.ByteStores : Prop :=
  ∀ (s : State) (r : Reg8) (n : Byte) (nn : Word),
    let Stores := fun (i : Instr) (a : Word) (v : Byte) (c : Nat) => Completes i s fun t =>
      StoresByte a v s t ∧ RegsKept [] s t ∧ ControlKept s t ∧ t.flags = s.flags ∧ t.sp = s.sp ∧ t.pc = s.pc
        ∧ t.cycles = c
    Stores (rowLdMemReg r) (joinBytes s.h s.l) (s.getReg8 r) 8 ∧ Stores (.ld_mHL_n n) (joinBytes s.h s.l) n 12
      ∧ Stores .ld_mBC_A (joinBytes s.b s.c) s.a 8 ∧ Stores .ld_mDE_A (joinBytes s.d s.e) s.a 8
      ∧ Stores (.ld_mnn_A nn) nn s.a 16
      ∧ Stores (.ldh_mn_A n) (0xFF00 + n.setWidth 16) s.a 12
      ∧ Stores .ld_mC_A (0xFF00 + s.c.setWidth 16) s.a 8

/-- R146 to R149: the loads and stores that step `HL`: the address is `HL` before the step, and `HL` wraps. -/
def Obligations.SteppingLoadsAndStores : Prop :=
  ∀ s : State,
    let Steps := fun (hl : Word) (t : State) => t.getPair .HL = hl ∧ ControlKept s t ∧ t.flags = s.flags
      ∧ t.sp = s.sp ∧ t.pc = s.pc ∧ t.cycles = 8
    let a := joinBytes s.h s.l
    (Completes .ld_mHLinc_A s fun t => StoresByte a s.a s t ∧ RegsKept [.H, .L] s t ∧ Steps (a + 1) t)
      ∧ (Completes .ld_mHLdec_A s fun t => StoresByte a s.a s t ∧ RegsKept [.H, .L] s t ∧ Steps (a - 1) t)
      ∧ (Completes .ld_A_mHLinc s fun t => t.a = s.memRead a ∧ NothingStored s t ∧ RegsKept [.A, .H, .L] s t ∧ Steps (a + 1) t)
      ∧ (Completes .ld_A_mHLdec s fun t => t.a = s.memRead a ∧ NothingStored s t ∧ RegsKept [.A, .H, .L] s t ∧ Steps (a - 1) t)

/-! ## 16-bit loads and the stack -/

/-- R161, R163: the loads of a pair or `SP` with a 16-bit value, with their frame. -/
def Obligations.WordLoads : Prop :=
  ∀ (s : State) (nn : Word),
    let Rest := fun (except : List Reg8) (t : State) (c : Nat) =>
      Quiet except s t ∧ t.flags = s.flags ∧ t.pc = s.pc ∧ t.cycles = c
    (Completes (.ld_BC_nn nn) s fun t => joinBytes t.b t.c = nn ∧ t.sp = s.sp ∧ Rest [.B, .C] t 12)
      ∧ (Completes (.ld_DE_nn nn) s fun t => joinBytes t.d t.e = nn ∧ t.sp = s.sp ∧ Rest [.D, .E] t 12)
      ∧ (Completes (.ld_HL_nn nn) s fun t => joinBytes t.h t.l = nn ∧ t.sp = s.sp ∧ Rest [.H, .L] t 12)
      ∧ (Completes (.ld_SP_nn nn) s fun t => t.sp = nn ∧ Rest [] t 12)
      ∧ (Completes .ld_SP_HL s fun t => t.sp = joinBytes s.h s.l ∧ Rest [] t 8)

/-- R164, R224: `LD HL,SP+e` and `ADD SP,e`: the sum with the signed displacement, wrapping; Z and N are 0, Hf and Cf are
the carries of the unsigned addition of the low byte of `SP` and the raw operand byte. -/
def Obligations.StackPointerArithmetic : Prop :=
  ∀ (s : State) (e : Byte),
    let v : Int := if e.toNat < 128 then s.sp.toNat + e.toNat else s.sp.toNat + e.toNat - 256
    let FlagsOf := fun (f : Flags) => f.z = false ∧ f.n = false
      ∧ (f.hf = true ↔ s.sp.toNat % 16 + e.toNat % 16 > 15) ∧ (f.cf = true ↔ s.sp.toNat % 256 + e.toNat > 255)
    (Completes (.ld_HL_SPe e) s fun t => ((joinBytes t.h t.l).toNat : Int) = v % 65536 ∧ FlagsOf t.flags
        ∧ Quiet [.H, .L] s t ∧ t.sp = s.sp ∧ t.pc = s.pc ∧ t.cycles = 12)
      ∧ (Completes (.add_SP_e e) s fun t => (t.sp.toNat : Int) = v % 65536 ∧ FlagsOf t.flags
        ∧ Quiet [] s t ∧ t.pc = s.pc ∧ t.cycles = 16)

/-- R162: `LD (nn),SP` stores the low byte at `nn` and then the high byte at the next address, which wraps. -/
def Obligations.StackPointerStore : Prop :=
  ∀ (s : State) (nn : Word), Completes (.ld_mnn_SP nn) s fun t =>
    MemoryOf ((s.memWrite nn (BitVec.ofNat 8 s.sp.toNat)).memWrite (nn + 1) (BitVec.ofNat 8 (s.sp.toNat / 256))) t
      ∧ StoresOnlyAt [nn, nn + 1] s t ∧ RegsKept [] s t ∧ ControlKept s t ∧ t.flags = s.flags ∧ t.sp = s.sp
      ∧ t.pc = s.pc ∧ t.cycles = 20

/-- R165, R166: PUSH stores the high byte below `SP` and the low byte below that; AF is `A` and the packed flags, whose
low four bits are 0. -/
def Obligations.PushStoresTheWord : Prop :=
  ∀ s : State,
    let Pushes := fun (i : Instr) (v : Word) => Completes i s fun t =>
      PushesWord v s t ∧ RegsKept [] s t ∧ ControlKept s t ∧ t.flags = s.flags ∧ t.pc = s.pc ∧ t.cycles = 16
    (∀ p, Pushes (rowPush p) (s.getPair p))
      ∧ ∃ f : Byte, f.toNat % 16 = 0 ∧ f.getLsbD 7 = s.flags.z ∧ f.getLsbD 6 = s.flags.n ∧ f.getLsbD 5 = s.flags.hf
          ∧ f.getLsbD 4 = s.flags.cf ∧ Pushes .push_AF (joinBytes s.a f)

/-- R167, R168: POP reads the word at `SP` and moves `SP` up by two; the low four bits of a popped status byte are lost. -/
def Obligations.PopReadsTheWord : Prop :=
  ∀ (s : State) (v : Word), WordAtSp s v →
    let Rest := fun (except : List Reg8) (t : State) =>
      t.sp = s.sp + 2 ∧ Quiet except s t ∧ t.pc = s.pc ∧ t.cycles = 12
    (Completes .pop_BC s fun t => joinBytes t.b t.c = v ∧ t.flags = s.flags ∧ Rest [.B, .C] t)
      ∧ (Completes .pop_DE s fun t => joinBytes t.d t.e = v ∧ t.flags = s.flags ∧ Rest [.D, .E] t)
      ∧ (Completes .pop_HL s fun t => joinBytes t.h t.l = v ∧ t.flags = s.flags ∧ Rest [.H, .L] t)
      ∧ (Completes .pop_AF s fun t => t.a.toNat = v.toNat / 256
          ∧ t.flags = ⟨v.getLsbD 7, v.getLsbD 6, v.getLsbD 5, v.getLsbD 4⟩ ∧ Rest [.A] t)

/-- R160, R165, R167: with the stack in plain storage, POP after PUSH gives the pushed pair and the old `SP`. -/
def Obligations.PopAfterPushRestores : Prop :=
  ∀ (s t u : State) (p q : Pair), Plain s.params.map (s.sp - 1) → Plain s.params.map (s.sp - 2) →
    exec (rowPush p) s = .next t → exec (rowPop q) t = .next u → u.getPair q = s.getPair p ∧ u.sp = s.sp

/-! ## 8-bit arithmetic -/

/-- R175 to R199: the eight accumulator operations in their three operand forms: result, flags and frame. -/
def Obligations.AccumulatorOperations : Prop :=
  ∀ (s : State) (op : AluOp),
    (∀ r, AluCompletes (rowAluReg op r) op s (s.getReg8 r) 4)
      ∧ AluCompletes (rowAluMem op) op s (s.memRead (joinBytes s.h s.l)) 8
      ∧ ∀ n, AluCompletes (rowAluImm op n) op s n 8

/-- R200, R201, R202, R203: the 8-bit increments and decrements: the result wraps, Hf is the nibble's carry or borrow,
Cf is kept; on `(HL)` the byte is written back and the flags come from the byte read. -/
def Obligations.ByteIncrementsAndDecrements : Prop :=
  ∀ s : State,
    let IncFlags := fun (old : Byte) (f : Flags) => (f.z = true ↔ old = 0xFF) ∧ f.n = false
      ∧ (f.hf = true ↔ old.toNat % 16 = 15) ∧ f.cf = s.flags.cf
    let DecFlags := fun (old : Byte) (f : Flags) => (f.z = true ↔ old = 0x01) ∧ f.n = true
      ∧ (f.hf = true ↔ old.toNat % 16 = 0) ∧ f.cf = s.flags.cf
    let a := joinBytes s.h s.l
    (∀ r, Completes (rowIncReg r) s fun t => (t.getReg8 r).toNat = ((s.getReg8 r).toNat + 1) % 256
        ∧ IncFlags (s.getReg8 r) t.flags ∧ Quiet [r] s t ∧ t.sp = s.sp ∧ t.pc = s.pc ∧ t.cycles = 4)
      ∧ (∀ r, Completes (rowDecReg r) s fun t => (t.getReg8 r).toNat = ((s.getReg8 r).toNat + 255) % 256
        ∧ DecFlags (s.getReg8 r) t.flags ∧ Quiet [r] s t ∧ t.sp = s.sp ∧ t.pc = s.pc ∧ t.cycles = 4)
      ∧ (Completes .inc_mHL s fun t => StoresByte a (BitVec.ofNat 8 ((s.memRead a).toNat + 1)) s t
        ∧ IncFlags (s.memRead a) t.flags ∧ RegsKept [] s t ∧ ControlKept s t ∧ t.sp = s.sp ∧ t.pc = s.pc ∧ t.cycles = 12)
      ∧ (Completes .dec_mHL s fun t => StoresByte a (BitVec.ofNat 8 ((s.memRead a).toNat + 255)) s t
        ∧ DecFlags (s.memRead a) t.flags ∧ RegsKept [] s t ∧ ControlKept s t ∧ t.sp = s.sp ∧ t.pc = s.pc ∧ t.cycles = 12)

/-- R204: DAA: after an addition 0x60 and 0x06 are added under their conditions, after a subtraction they are taken away
under Cf and Hf; N is kept, Hf cleared, Cf set when 0x60 was added and otherwise kept. -/
def Obligations.DecimalAdjust : Prop :=
  ∀ s : State,
    let high := s.flags.cf = true ∨ (s.flags.n = false ∧ s.a.toNat > 0x99)
    let low := s.flags.hf = true ∨ (s.flags.n = false ∧ s.a.toNat % 16 > 9)
    Completes .daa s fun t =>
      (∀ x y : Nat, (high → x = 0x60) → (¬ high → x = 0) → (low → y = 0x06) → (¬ low → y = 0) →
        t.a.toNat = (if s.flags.n then s.a.toNat + 512 - x - y else s.a.toNat + x + y) % 256)
        ∧ (t.flags.z = true ↔ t.a = 0) ∧ t.flags.n = s.flags.n ∧ t.flags.hf = false ∧ (t.flags.cf = true ↔ high)
        ∧ Quiet [.A] s t ∧ t.sp = s.sp ∧ t.pc = s.pc ∧ t.cycles = 4

/-- R178, R184, R204: DAA corrects BCD: for two-digit numbers, ADD then DAA leaves the digits of the sum with Cf the
hundred, and SUB then DAA the digits of the difference with Cf the borrow. -/
def Obligations.DecimalAdjustCorrectsBcd : Prop :=
  ∀ (s t u : State) (x y : Nat), x < 100 → y < 100 → s.a = bcd (x / 10) (x % 10) →
    ((exec (.add_A_n (bcd (y / 10) (y % 10))) s = .next t → exec .daa t = .next u →
        u.a = bcd ((x + y) % 100 / 10) ((x + y) % 10) ∧ (u.flags.cf = true ↔ 100 ≤ x + y))
      ∧ (exec (.sub_n (bcd (y / 10) (y % 10))) s = .next t → exec .daa t = .next u →
        u.a = bcd ((x + 100 - y) % 100 / 10) ((x + 100 - y) % 10) ∧ (u.flags.cf = true ↔ x < y)))

/-- R205, R206, R207: CPL, SCF and CCF: their one byte, what each writes, and that Z is kept; SCF then CCF clears the
carry. -/
def Obligations.AccumulatorAndCarryFlips : Prop :=
  ∀ s : State,
    let Rest := fun (except : List Reg8) (t : State) => Quiet except s t ∧ t.sp = s.sp ∧ t.pc = s.pc ∧ t.cycles = 4
    (Completes .cpl s fun t => t.a.toNat = 255 - s.a.toNat ∧ t.flags = ⟨s.flags.z, true, true, s.flags.cf⟩ ∧ Rest [.A] t)
      ∧ (Completes .scf s fun t => t.flags = ⟨s.flags.z, false, false, true⟩ ∧ Rest [] t)
      ∧ (Completes .ccf s fun t => t.flags = ⟨s.flags.z, false, false, !s.flags.cf⟩ ∧ Rest [] t)
      ∧ (∀ t u, exec .scf s = .next t → exec .ccf t = .next u → u.flags.cf = false)
      ∧ encode .cpl = [0x2F] ∧ encode .scf = [0x37] ∧ encode .ccf = [0x3F]

/-! ## 16-bit arithmetic -/

/-- R221: `ADD HL,rr`: the sum wraps, N is 0, Hf is the carry out of bit 11, Cf out of bit 15, Z is kept. -/
def Obligations.AddIntoHl : Prop :=
  ∀ (s : State) (r : Reg16), Completes (rowAddHl r) s fun t =>
    let a := (joinBytes s.h s.l).toNat
    let b := (s.getReg16 r).toNat
    (joinBytes t.h t.l).toNat = (a + b) % 65536 ∧ t.flags.z = s.flags.z ∧ t.flags.n = false
      ∧ (t.flags.hf = true ↔ a % 4096 + b % 4096 > 4095) ∧ (t.flags.cf = true ↔ a + b > 65535)
      ∧ Quiet [.H, .L] s t ∧ t.sp = s.sp ∧ t.pc = s.pc ∧ t.cycles = 8

/-- R222, R223: the 16-bit increments and decrements: their one byte; the result wraps, and no flag and no other
register changes. -/
def Obligations.WordIncrementsAndDecrements : Prop :=
  ∀ (s : State) (r : Reg16),
    let Rest := fun (t : State) => (∀ q : Reg16, q ≠ r → t.getReg16 q = s.getReg16 q) ∧ t.a = s.a ∧ t.flags = s.flags
      ∧ ControlKept s t ∧ NothingStored s t ∧ t.pc = s.pc ∧ t.cycles = 8
    (Completes (rowIncPair r) s fun t => (t.getReg16 r).toNat = ((s.getReg16 r).toNat + 1) % 65536 ∧ Rest t)
      ∧ (Completes (rowDecPair r) s fun t => (t.getReg16 r).toNat = ((s.getReg16 r).toNat + 65535) % 65536 ∧ Rest t)
      ∧ encode (rowIncPair r) = [match r with | .BC => 0x03 | .DE => 0x13 | .HL => 0x23 | .SP => 0x33]
      ∧ encode (rowDecPair r) = [match r with | .BC => 0x0B | .DE => 0x1B | .HL => 0x2B | .SP => 0x3B]

/-! ## Rotates, shifts and bits -/

/-- R230 to R234: the four accumulator rotates, bit by bit; Z is 0 whatever the result. -/
def Obligations.AccumulatorRotates : Prop :=
  ∀ s : State,
    let Rotates := fun (i : Instr) (op : ShiftOp) => Completes i s fun t =>
      IsShifted op s.a s.flags.cf t.a ∧ ShiftFlags op s.a False t.flags ∧ Quiet [.A] s t ∧ t.sp = s.sp ∧ t.pc = s.pc
        ∧ t.cycles = 4
    Rotates .rlca .rlc ∧ Rotates .rla .rl ∧ Rotates .rrca .rrc ∧ Rotates .rra .rr

/-- R230, R235 to R250: the rotates, shifts and SWAP of a register and of `(HL)`, bit by bit; Z tells a zero result. -/
def Obligations.RotatesAndShifts : Prop :=
  ∀ (s : State) (op : ShiftOp),
    (∀ r, Completes (rowShiftReg op r) s fun t =>
      IsShifted op (s.getReg8 r) s.flags.cf (t.getReg8 r)
        ∧ ShiftFlags op (s.getReg8 r) (t.getReg8 r = 0) t.flags ∧ Quiet [r] s t ∧ t.sp = s.sp ∧ t.pc = s.pc
        ∧ t.cycles = 8)
      ∧ Completes (rowShiftMem op) s fun t => ∃ v : Byte,
        IsShifted op (s.memRead (joinBytes s.h s.l)) s.flags.cf v ∧ StoresByte (joinBytes s.h s.l) v s t
          ∧ ShiftFlags op (s.memRead (joinBytes s.h s.l)) (v = 0) t.flags ∧ RegsKept [] s t ∧ ControlKept s t
          ∧ t.sp = s.sp ∧ t.pc = s.pc ∧ t.cycles = 16

/-- R251, R252: BIT: Z is the complement of the bit, N is 0, Hf is 1, Cf is kept, nothing else is written. -/
def Obligations.BitTests : Prop :=
  ∀ (s : State) (b : Octal),
    let Tests := fun (i : Instr) (v : Byte) (c : Nat) => Completes i s fun t =>
      t.flags = ⟨!v.getLsbD b.toNat, false, true, s.flags.cf⟩ ∧ Quiet [] s t ∧ t.sp = s.sp ∧ t.pc = s.pc ∧ t.cycles = c
    (∀ r, Tests (rowBitReg b r) (s.getReg8 r) 8) ∧ Tests (rowBitMem b) (s.memRead (joinBytes s.h s.l)) 12

/-- R253 to R256: RES and SET change the one bit and no flag, in a register and in `(HL)`. -/
def Obligations.BitResetsAndSets : Prop :=
  ∀ (s : State) (b : Octal),
    let InReg := fun (i : Instr) (r : Reg8) (x : Bool) => Completes i s fun t =>
      IsWithBit (s.getReg8 r) b.toNat x (t.getReg8 r) ∧ Quiet [r] s t ∧ t.flags = s.flags ∧ t.sp = s.sp ∧ t.pc = s.pc
        ∧ t.cycles = 8
    let InMem := fun (i : Instr) (x : Bool) => Completes i s fun t => ∃ v : Byte,
      IsWithBit (s.memRead (joinBytes s.h s.l)) b.toNat x v ∧ StoresByte (joinBytes s.h s.l) v s t ∧ RegsKept [] s t
        ∧ ControlKept s t ∧ t.flags = s.flags ∧ t.sp = s.sp ∧ t.pc = s.pc ∧ t.cycles = 16
    (∀ r, InReg (rowResReg b r) r false ∧ InReg (rowSetReg b r) r true)
      ∧ InMem (rowResMem b) false ∧ InMem (rowSetMem b) true

/-! ## Control transfer -/

/-- R271 to R275: the jumps: the target, the cycles taken and not taken, and that nothing else changes. -/
def Obligations.JumpsGoToTheirTargets : Prop :=
  ∀ (s : State) (c : Cond) (nn : Word) (e : Byte),
    let Goes := fun (i : Instr) (target : Int) (n : Nat) => Completes i s fun t =>
      (t.pc.toNat : Int) = target % 65536 ∧ Quiet [] s t ∧ t.flags = s.flags ∧ t.sp = s.sp ∧ t.cycles = n
    let rel : Int := if e.toNat < 128 then s.pc.toNat + e.toNat else s.pc.toNat + e.toNat - 256
    Goes (.jp_nn nn) nn.toNat 16 ∧ Goes .jp_HL (joinBytes s.h s.l).toNat 4 ∧ Goes (.jr_e e) rel 12
      ∧ (CondHolds c s.flags → Goes (rowJpCond c nn) nn.toNat 16 ∧ Goes (rowJrCond c e) rel 12)
      ∧ (¬ CondHolds c s.flags → Goes (rowJpCond c nn) s.pc.toNat 12 ∧ Goes (rowJrCond c e) s.pc.toNat 8)

/-- R276, R277, R281: calls and restarts push `PC`, the address after their bytes, and jump; a call not taken does
neither. -/
def Obligations.CallsPushTheReturnAddress : Prop :=
  ∀ (s : State) (c : Cond) (nn : Word) (k : Octal),
    let Calls := fun (i : Instr) (target : Word) (n : Nat) => Completes i s fun t =>
      t.pc = target ∧ PushesWord s.pc s t ∧ RegsKept [] s t ∧ ControlKept s t ∧ t.flags = s.flags ∧ t.cycles = n
    Calls (.call_nn nn) nn 24 ∧ Calls (rowRst k) (BitVec.ofNat 16 (8 * k.toNat)) 16
      ∧ (CondHolds c s.flags → Calls (rowCallCond c nn) nn 24)
      ∧ (¬ CondHolds c s.flags → Completes (rowCallCond c nn) s fun t =>
          t.pc = s.pc ∧ t.sp = s.sp ∧ Quiet [] s t ∧ t.flags = s.flags ∧ t.cycles = 12)

/-- R278, R279, R280: returns go to the word at `SP` and move `SP` up by two; RETI sets the master enable at once; a
return not taken changes nothing. -/
def Obligations.ReturnsPopTheAddress : Prop :=
  ∀ (s : State) (c : Cond) (v : Word), WordAtSp s v →
    let Returns := fun (t : State) (n : Nat) =>
      t.pc = v ∧ t.sp = s.sp + 2 ∧ RegsKept [] s t ∧ NothingStored s t ∧ t.flags = s.flags ∧ t.cycles = n
    (Completes .ret s fun t => Returns t 16 ∧ ControlKept s t)
      ∧ (Completes .reti s fun t => Returns t 16 ∧ t.ime = true ∧ t.imeDelay = 0 ∧ t.halted = s.halted
          ∧ t.stopped = s.stopped ∧ t.fault = s.fault)
      ∧ (CondHolds c s.flags → Completes (rowRetCond c) s fun t => Returns t 20 ∧ ControlKept s t)
      ∧ (¬ CondHolds c s.flags → Completes (rowRetCond c) s fun t =>
          t.pc = s.pc ∧ t.sp = s.sp ∧ Quiet [] s t ∧ t.flags = s.flags ∧ t.cycles = 8)

/-- R276, R278, R281: with the stack in plain storage, RET after a call or a restart returns to the address after it with
the old `SP`. -/
def Obligations.ReturnUndoesTheCall : Prop :=
  ∀ (s t u : State) (nn : Word) (k : Octal), Plain s.params.map (s.sp - 1) → Plain s.params.map (s.sp - 2) →
    (exec (.call_nn nn) s = .next t ∨ exec (rowRst k) s = .next t) → exec .ret t = .next u →
    u.pc = s.pc ∧ u.sp = s.sp

/-! ## System instructions -/

/-- R290 to R294: NOP, HALT, STOP, DI and EI: what each writes of the control state, and that nothing else changes. -/
def Obligations.SystemInstructions : Prop :=
  ∀ (s : State) (pad : Byte),
    let Rest := fun (t : State) => RegsKept [] s t ∧ NothingStored s t ∧ t.flags = s.flags ∧ t.sp = s.sp ∧ t.pc = s.pc
      ∧ t.fault = s.fault ∧ t.cycles = 4
    (Completes .nop s fun t => Rest t ∧ ControlKept s t)
      ∧ (Completes .halt s fun t => Rest t ∧ t.halted = true ∧ t.stopped = s.stopped ∧ t.ime = s.ime
          ∧ t.imeDelay = s.imeDelay)
      ∧ (Completes (.stop pad) s fun t => Rest t ∧ t.stopped = true ∧ t.halted = s.halted ∧ t.ime = s.ime
          ∧ t.imeDelay = s.imeDelay)
      ∧ (Completes .di s fun t => Rest t ∧ t.ime = false ∧ t.imeDelay = 0 ∧ t.halted = s.halted
          ∧ t.stopped = s.stopped)
      ∧ (Completes .ei s fun t => Rest t ∧ t.ime = s.ime ∧ t.imeDelay = (if s.imeDelay = 0 then 2 else s.imeDelay)
          ∧ t.halted = s.halted ∧ t.stopped = s.stopped)

/-- R295, R116: the prefix row fetches the next byte and is the row of the extended page that the byte selects. -/
def Obligations.PrefixSelectsTheExtendedPage : Prop :=
  ∀ s : State, ∃ t, exec .prefixCB s = .next t
    ∧ exec (decodeBytes 0xCB (s.memRead s.pc) 0) (s.setPc (s.pc + 1)) = .next t

/-! ## The timer -/

/-- R331, R337: one tick: the counter counts, then a pending overflow reloads TIMA and requests the interrupt, then, with
the timer enabled, a fall of the selected bit counts TIMA, whose wrap sets the pending overflow. An advance by `n` cycles
is `n` ticks, one after another. -/
def Obligations.TimerTickFollowsTheRule : Prop :=
  (∀ s : State,
    let t := s.timerTick
    let tap := match (s.ioGet .TAC).toNat % 4 with | 0 => 9 | 1 => 3 | 2 => 5 | _ => 7
    let on := (s.ioGet .TAC).getLsbD 2 = true
    let now := (counter t).testBit tap
    let tima := if s.pendingOverflow then s.ioGet .TMA else s.ioGet .TIMA
    let at' := fun r => s.params.map.addr r
    counter t = (counter s + 1) % 65536
      ∧ (s.pendingOverflow = true → (t.ioGet .IF).getLsbD 2 = true)
      ∧ (∀ k, k ≠ 2 ∨ s.pendingOverflow = false → (t.ioGet .IF).getLsbD k = (s.ioGet .IF).getLsbD k)
      ∧ (on ∧ s.lastSample = true ∧ now = false → t.ioGet .TIMA = tima + 1 ∧ t.pendingOverflow = decide (tima = 0xFF))
      ∧ (¬ (on ∧ s.lastSample = true ∧ now = false) → t.ioGet .TIMA = tima ∧ t.pendingOverflow = false)
      ∧ (on → t.lastSample = now) ∧ (¬ on → t.lastSample = s.lastSample)
      ∧ ∀ x : Nat, x ≠ at' .DIVLO → x ≠ at' .DIV → x ≠ at' .TIMA → x ≠ at' .IF → t.rawGet x = s.rawGet x)
    ∧ ∀ s : State, s.timerAdvance 0 = s ∧ ∀ n, s.timerAdvance (n + 1) = (s.timerAdvance n).timerTick

/-- R338(a), R332, R333, R334: over one period of the selected bit, with the timer enabled, the sample up to date and no
overflow under way, TIMA is incremented exactly once. From 0xFF it wraps: if the edge falls in the last tick of the period
TIMA is left at 0 with the overflow pending, else it has been reloaded from TMA and the interrupt requested. -/
def Obligations.OnePeriodCountsOnce : Prop :=
  ∀ (s : State) (k : Nat), TapIs s k → s.lastSample = (counter s).testBit k → s.pendingOverflow = false →
    let t := s.timerAdvance (2 ^ (k + 1))
    (s.ioGet .TIMA ≠ 0xFF → t.ioGet .TIMA = s.ioGet .TIMA + 1 ∧ t.pendingOverflow = false ∧ t.ioGet .IF = s.ioGet .IF)
      ∧ (s.ioGet .TIMA = 0xFF → counter s % 2 ^ (k + 1) = 0 →
          t.ioGet .TIMA = 0 ∧ t.pendingOverflow = true ∧ t.ioGet .IF = s.ioGet .IF)
      ∧ (s.ioGet .TIMA = 0xFF → counter s % 2 ^ (k + 1) ≠ 0 →
          t.ioGet .TIMA = s.ioGet .TMA ∧ t.pendingOverflow = false ∧ IsWithBit (s.ioGet .IF) 2 true (t.ioGet .IF))

/-! ## The display controller -/

/-- R351, R352, R353: below the budget only the accumulator moves; OamScan and PixelTransfer are left when theirs is
reached, with the remainder carried on, the mode's code in STAT, and the HBlank request when it is enabled. -/
def Obligations.DisplayBudgetsAndEarlyModes : Prop :=
  ∀ (s : State) (n : Nat),
    let t := s.displayAdvance n
    let stat2 := (s.ioGet .STAT).getLsbD 2
    (s.lcdAcc + n < (match s.lcdMode with | .oamScan => 80 | .pixelTransfer => 172 | .hBlank => 204 | .vBlank => 456) →
        t = s.setLcdAcc (s.lcdAcc + n))
      ∧ (s.lcdMode = .oamScan → 80 ≤ s.lcdAcc + n → t.lcdMode = .pixelTransfer ∧ t.lcdAcc = (s.lcdAcc + n) % 80
          ∧ StatBecomes s t 3 stat2 ∧ Requests s t false false ∧ t.ioGet .LY = s.ioGet .LY ∧ DisplayOnly s t
          ∧ t.back = s.back ∧ t.frame = s.frame ∧ t.frameReady = s.frameReady)
      ∧ (s.lcdMode = .pixelTransfer → 172 ≤ s.lcdAcc + n → t.lcdMode = .hBlank ∧ t.lcdAcc = (s.lcdAcc + n) % 172
          ∧ StatBecomes s t 0 stat2 ∧ Requests s t ((s.ioGet .STAT).getLsbD 3) false ∧ t.ioGet .LY = s.ioGet .LY
          ∧ DisplayOnly s t ∧ t.back = s.back ∧ t.frame = s.frame ∧ t.frameReady = s.frameReady)

/-- R354, R356, R357: leaving HBlank renders the line into the back buffer, if it is a visible one, counts LY and compares
it with LYC; on reaching line 144 VBlank is entered and requested and the back buffer published; otherwise OamScan is
entered, which makes the LCD request if STAT bit 5 enables it. An equal LYC sets STAT bit 2 and makes the request if STAT
bit 6 enables it. Nothing else changes. That LY = 255 counts up to 0 is the model's DESIGN CHOICE (log entry 20). -/
def Obligations.LeavingHBlankEndsTheLine : Prop :=
  ∀ (s : State) (n : Nat), s.lcdMode = .hBlank → 204 ≤ s.lcdAcc + n →
    let t := s.displayAdvance n
    let ly := (s.ioGet .LY).toNat
    let same := decide (s.ioGet .LY + 1 = s.ioGet .LYC)
    let stat := fun k => (s.ioGet .STAT).getLsbD k
    t.lcdAcc = (s.lcdAcc + n) % 204 ∧ t.ioGet .LY = s.ioGet .LY + 1 ∧ DisplayOnly s t
      ∧ (ly < 144 → ∀ y x, x < 160 → pixelAt t.back y x =
          if y = ly then (s.scanline y).getD x 0 else pixelAt s.back y x)
      ∧ (144 ≤ ly → t.back = s.back)
      ∧ (ly = 143 → t.lcdMode = .vBlank ∧ StatBecomes s t 1 same ∧ Requests s t (same && stat 6) true
          ∧ t.frame = t.back ∧ t.frameReady = true)
      ∧ (ly ≠ 143 → t.lcdMode = .oamScan ∧ StatBecomes s t 2 same ∧ Requests s t ((same && stat 6) || stat 5) false
          ∧ t.frame = s.frame ∧ t.frameReady = s.frameReady)

/-- R355, R356: a VBlank line ends by counting LY and comparing it with LYC; after line 153 LY is 0, the compare is made
with that, and OamScan is entered, which makes the LCD request if STAT bit 5 enables it. Nothing is rendered, no VBlank
request is made, and nothing else changes. That LY = 255 counts up to 0, so that VBlank goes on, is the model's DESIGN
CHOICE (log entry 20). -/
def Obligations.VBlankLinesCountAndWrap : Prop :=
  ∀ (s : State) (n : Nat), s.lcdMode = .vBlank → 456 ≤ s.lcdAcc + n →
    let t := s.displayAdvance n
    let up := s.ioGet .LY + 1
    let stat := fun k => (s.ioGet .STAT).getLsbD k
    t.lcdAcc = (s.lcdAcc + n) % 456
      ∧ (up.toNat ≤ 153 → t.lcdMode = .vBlank ∧ t.ioGet .LY = up
          ∧ StatBecomes s t ((s.ioGet .STAT).toNat % 4) (decide (up = s.ioGet .LYC))
          ∧ Requests s t (decide (up = s.ioGet .LYC) && stat 6) false)
      ∧ (153 < up.toNat → t.lcdMode = .oamScan ∧ t.ioGet .LY = 0
          ∧ StatBecomes s t 2 (decide (s.ioGet .LYC = 0))
          ∧ Requests s t ((decide (s.ioGet .LYC = 0) && stat 6) || stat 5) false)
      ∧ t.back = s.back ∧ t.frame = s.frame ∧ t.frameReady = s.frameReady ∧ DisplayOnly s t

/-- R356: the line compare sets STAT bit 2 to whether LY equals LYC and, where they are equal and STAT bit 6 is set,
requests the LCD interrupt; nothing else changes. -/
def Obligations.LineCompareSetsTheFlag : Prop :=
  ∀ s : State,
    let same := decide (s.ioGet .LY = s.ioGet .LYC)
    StatBecomes s s.compareLy ((s.ioGet .STAT).toNat % 4) same
      ∧ Requests s s.compareLy (same && (s.ioGet .STAT).getLsbD 6) false
      ∧ s.compareLy.ioGet .LY = s.ioGet .LY ∧ DisplayOnly s s.compareLy
      ∧ s.compareLy.lcdMode = s.lcdMode ∧ s.compareLy.lcdAcc = s.lcdAcc ∧ s.compareLy.back = s.back
      ∧ s.compareLy.frame = s.frame ∧ s.compareLy.frameReady = s.frameReady

/-- R360 to R363: below the sprites, the pixel at column `x` of line `ly` is the palette's shade of the two plane bits of
the tile that the map names: in the window, where LCDC bit 5 shows it and it covers the pixel, at the place counted from
the window's corner; else in the background, at the scrolled place. With LCDC bit 0 clear it is colour 0 and shade 0; with
LCDC bit 1 clear no sprite is drawn over it. -/
def Obligations.BackgroundPixel : Prop :=
  ∀ (s : State) (ly x : Nat), ly < 144 → x < 160 →
    let lcdc := fun k => (s.ioGet .LCDC).getLsbD k
    let wx := (s.ioGet .WX).toNat
    let wy := (s.ioGet .WY).toNat
    let window := lcdc 5 = true ∧ wy ≤ ly ∧ wx ≤ x + 7
    (lcdc 1 = false → (s.scanline ly).getD x 0 = s.pixelShade [] ly x)
      ∧ (lcdc 0 = false → s.bgIndex ly x = 0 ∧ s.pixelShade [] ly x = 0)
      ∧ (lcdc 0 = true → ∀ px py map addr idx : Nat,
          (window → px + wx = x + 7 ∧ py + wy = ly ∧ map = if lcdc 6 then 0x9C00 else 0x9800) →
          (¬ window → px = ((s.ioGet .SCX).toNat + x) % 256 ∧ py = ((s.ioGet .SCY).toNat + ly) % 256
            ∧ map = if lcdc 3 then 0x9C00 else 0x9800) →
          (let id := (s.rawGet (map + py / 8 * 32 + px / 8)).toNat
           addr = (if lcdc 4 ∨ 128 ≤ id then 0x8000 + id * 16 else 0x9000 + id * 16) + py % 8 * 2) →
          idx = (s.rawGet (addr + 1)).toNat / 2 ^ (7 - px % 8) % 2 * 2 + (s.rawGet addr).toNat / 2 ^ (7 - px % 8) % 2 →
          (s.bgIndex ly x).toNat = idx ∧ (s.pixelShade [] ly x).toNat = (s.ioGet .BGP).toNat / 4 ^ idx % 4)

/-- R360, R364, R365: with LCDC bit 1 set, the sprites of a line are the entries of the 40 that are on the screen and
cover it, in table order; an entry's row of its tile is counted from the other end under the vertical flip, and from an
even tile where sprites are 16 lines high. Its pixels are the plane bits from the left, or from the right under the
horizontal flip. The pixel of the line is the background's with the sprites drawn over it one after another: a sprite's
pixel is drawn unless it is transparent, or behind a background pixel that is not colour 0. By default the table begins at
0xFE00 (R8, R61). -/
def Obligations.SpritePixelsCompose : Prop :=
  Params.standard.map.bounds.spriteTable.first = 0xFE00 ∧ ∀ (s : State) (ly : Nat),
    (∀ x, x < 160 → (s.scanline ly).getD x 0 = s.pixelShade (s.lineSprites ly) ly x)
      ∧ (∀ (rs : List SpriteRow) (r : SpriteRow) (x : Nat),
          s.pixelShade (rs ++ [r]) ly x = s.spriteOver (s.bgIndex ly x) x (s.pixelShade rs ly x) r)
      ∧ ((s.ioGet .LCDC).getLsbD 1 = false → s.lineSprites ly = [])
      ∧ ((s.ioGet .LCDC).getLsbD 1 = true → s.lineSprites ly = (List.range 40).filterMap (s.spriteRow ly))
      ∧ (∀ i : Nat,
          let first := s.params.map.bounds.spriteTable.first
          let y := (s.rawGet (first + 4 * i)).toNat
          let xpos := s.rawGet (first + 4 * i + 1)
          let tile := (s.rawGet (first + 4 * i + 2)).toNat
          let attr := s.rawGet (first + 4 * i + 3)
          let h := if (s.ioGet .LCDC).getLsbD 2 then 16 else 8
          (s.spriteRow ly i = none ↔ y = 0 ∨ 160 ≤ y ∨ xpos.toNat = 0 ∨ 168 ≤ xpos.toNat ∨ ly + 16 < y ∨ y + h ≤ ly + 16)
            ∧ ∀ (r : SpriteRow) (row addr : Nat), s.spriteRow ly i = some r →
                (attr.getLsbD 6 = false → y + row = ly + 16) → (attr.getLsbD 6 = true → ly + 16 + row = y + h - 1) →
                addr = 0x8000 + (if h = 16 then tile / 2 * 2 else tile) * 16 + row * 2 →
                r = ⟨xpos, attr, s.rawGet addr, s.rawGet (addr + 1)⟩)
      ∧ (∀ (r : SpriteRow) (x : Nat),
          (∀ p, p < 8 → x + 8 = r.xpos.toNat + p →
            let k := if r.attr.getLsbD 5 then p else 7 - p
            (r.index x).toNat = r.hi.toNat / 2 ^ k % 2 * 2 + r.lo.toNat / 2 ^ k % 2)
          ∧ (x + 8 < r.xpos.toNat ∨ r.xpos.toNat ≤ x → r.index x = 0))
      ∧ ∀ (bg : Shade) (x : Nat) (sh : Shade) (r : SpriteRow),
          (r.index x = 0 ∨ (r.attr.getLsbD 7 = true ∧ bg ≠ 0) → s.spriteOver bg x sh r = sh)
          ∧ (r.index x ≠ 0 → r.attr.getLsbD 7 = false ∨ bg = 0 →
              (s.spriteOver bg x sh r).toNat =
                (s.ioGet (if r.attr.getLsbD 4 then .OBP1 else .OBP0)).toNat / 4 ^ (r.index x).toNat % 4)

/-! ## The host -/

/-- R59, R305, R380 to R384, R386, R400, R401: what the host may do, when, and that nothing else changes. Between machine
steps: present key state, request the Serial or Input interrupt, take a ready frame, leave the stopped state. Before the
first machine step: supply parameters and images, preset a byte of a plain region; then it applies reset, which gives
every item its reset value and leaves parameters and images; with profile `boot` it must have supplied an overlay. In a
running session nothing can be supplied or preset, so that parameters and images stay as they are; none runs without a
reset. That an event which is not allowed where it stands has no result, and that reset, applied after a preset, gives the
preset byte its reset value, is the model's inference (DEDUCED, log entry 5); that profile `boot` without an overlay image
is refused is its DESIGN CHOICE (log entry 1), and so is that a session which has faulted still runs, so that the host may
act on it (log entry 18). -/
def Obligations.HostActionsAreLocal : Prop :=
  (∀ (s : State) (v : Byte),
    let iflag := s.params.map.addr .IF
    HostAction.apply (.writeJoyp v) s = some (s.rawSet (s.params.map.addr .JOYP) v)
      ∧ (∃ f, IsWithBit (s.rawGet iflag) 3 true f ∧ HostAction.apply .requestSerial s = some (s.rawSet iflag f))
      ∧ (∃ f, IsWithBit (s.rawGet iflag) 4 true f ∧ HostAction.apply .requestInput s = some (s.rawSet iflag f))
      ∧ (s.frameReady = true → s.readFrame = some s.frame ∧ HostAction.apply .takeFrame s = some (s.setFrameReady false))
      ∧ (s.frameReady = false → s.readFrame = none ∧ HostAction.apply .takeFrame s = none)
      ∧ (s.stopped = true → HostAction.apply .resume s = some (s.setStopped false))
      ∧ (s.stopped = false → HostAction.apply .resume s = none)
      ∧ s.serialLog = (s.memRead (regAt s .SB), s.memRead (regAt s .SC)))
    ∧ (∀ s : State,
      let Supplies := fun (act : SetupAction) (t : State) => Session.next ⟨s, false⟩ (.setup act) = some ⟨t, false⟩
      (∀ P, Supplies (.supply P) (s.setParams P))
        ∧ (∀ image, ∃ r, Supplies (.loadCartridge image) (s.setRom r) ∧ ∀ i, (s.setRom r).romByte i = image.getD i 0xFF)
        ∧ (∀ image, image.length = 256 → ∃ b, Supplies (.loadBoot image) (s.setBoot b)
            ∧ ∀ i, i < 256 → (s.setBoot b).bootByte i = image.getD i 0)
        ∧ (∀ image, image.length ≠ 256 → Session.next ⟨s, false⟩ (.setup (.loadBoot image)) = none)
        ∧ (∀ a v, InPlainRegion s.params.map a → Supplies (.preset a v) (s.rawSet a.toNat v))
        ∧ (∀ a v, ¬ InPlainRegion s.params.map a → Session.next ⟨s, false⟩ (.setup (.preset a v)) = none)
        ∧ (∀ act, Session.next ⟨s, false⟩ (.host act) = none) ∧ Session.next ⟨s, false⟩ .machine = none)
    ∧ (∀ (s : State) (on : Bool) (p : Profile),
      (p = .postboot ∨ s.boot ≠ [] → ∃ t, Session.next ⟨s, on⟩ (.reset p) = some ⟨t, true⟩ ∧ t.rom = s.rom ∧ t.boot = s.boot
          ∧ (t.setRom []).setBoot [] = State.initial s.params p)
        ∧ (s.boot = [] → Session.next ⟨s, on⟩ (.reset .boot) = none))
    ∧ ∀ s : State,
      (∀ act, Session.next ⟨s, true⟩ (.setup act) = none)
        ∧ (∀ act t, Session.next ⟨s, true⟩ (.host act) = some t ↔ ∃ u, act.apply s = some u ∧ t = ⟨u, true⟩)
        ∧ (∀ t, Session.next ⟨s, true⟩ .machine = some t ↔ ∃ u, step s = .next u ∧ t = ⟨u, true⟩)
        ∧ ∀ (es : List Event) (τ : Session), .close ∉ es → runSession es ⟨s, true⟩ = some τ →
            τ.running = true ∧ τ.machine.params = s.params ∧ τ.machine.rom = s.rom ∧ τ.machine.boot = s.boot
end

