-- ==== Sys2Proof/Laws/Sparse.lean ====
section
/-! SUPPORT. The laws of sparse tables: read after write, and the canonical form. -/

namespace Sys2Proof
namespace Machine
namespace Sparse

variable {α : Type}

@[simp] theorem find_nil (x : Nat) : find ([] : List (Nat × α)) x = none := rfl

@[simp] theorem find_put_same (m : List (Nat × α)) (x : Nat) (v : α) : find (put m x v) x = some v := by
  induction m with
  | nil => simp [put, find]
  | cons c m ih =>
    obtain ⟨k, w⟩ := c
    unfold put
    split
    · simp [find]
    · split
      · simp [find]
      · have : k ≠ x := by omega
        simp [find, this, ih]

theorem find_put_other (m : List (Nat × α)) (x y : Nat) (v : α) (h : y ≠ x) :
    find (put m x v) y = find m y := by
  induction m with
  | nil => simp [put, find, h.symm]
  | cons c m ih =>
    obtain ⟨k, w⟩ := c
    unfold put
    split
    · rw [find, if_neg h.symm]
    · split
      · next hx => subst hx; simp [find, h.symm]
      · simp [find, ih]

@[simp] theorem find_drop_same (m : List (Nat × α)) (x : Nat) : find (drop m x) x = none := by
  induction m with
  | nil => rfl
  | cons c m ih =>
    obtain ⟨k, w⟩ := c
    unfold drop
    split
    · exact ih
    · next h => simp [find, h, ih]

theorem find_drop_other (m : List (Nat × α)) (x y : Nat) (h : y ≠ x) : find (drop m x) y = find m y := by
  induction m with
  | nil => rfl
  | cons c m ih =>
    obtain ⟨k, w⟩ := c
    unfold drop
    split
    · next hk => subst hk; simp [find, h.symm, ih]
    · simp [find, ih]

/-- A write is seen by a read of the same key, whatever the table. -/
@[simp] theorem read_write_same [DecidableEq α] (d : Nat → α) (m : List (Nat × α)) (x : Nat) (v : α) :
    read d (write d m x v) x = v := by
  unfold read write
  split
  · next h => simp [h]
  · simp

/-- A write leaves every other key alone, whatever the table. -/
theorem read_write_other [DecidableEq α] (d : Nat → α) (m : List (Nat × α)) (x y : Nat) (v : α) (h : y ≠ x) :
    read d (write d m x v) y = read d m y := by
  unfold read write
  split
  · rw [find_drop_other m x y h]
  · rw [find_put_other m x y v h]

theorem read_write [DecidableEq α] (d : Nat → α) (m : List (Nat × α)) (x y : Nat) (v : α) :
    read d (write d m x v) y = if y = x then v else read d m y := by
  split
  · next h => subst h; simp
  · next h => exact read_write_other d m x y v h

/-! ### The canonical form -/

@[simp] theorem above_nil (x : Nat) : above x ([] : List (Nat × α)) = true := rfl

@[simp] theorem above_cons (x k : Nat) (v : α) (m : List (Nat × α)) :
    above x ((k, v) :: m) = (decide (x < k) && above x m) := rfl

@[simp] theorem rising_cons (k : Nat) (v : α) (m : List (Nat × α)) :
    rising ((k, v) :: m) = (above k m && rising m) := rfl

theorem above_put (x k : Nat) (v : α) (m : List (Nat × α)) (hx : x < k) (h : above x m = true) :
    above x (put m k v) = true := by
  induction m with
  | nil => simp [put, hx]
  | cons c m ih =>
    obtain ⟨j, w⟩ := c
    simp only [above_cons, Bool.and_eq_true, decide_eq_true_eq] at h
    unfold put
    split
    · simp [hx, h]
    · split
      · simp [hx, h]
      · simp [h, ih h.2]

theorem above_drop (x k : Nat) (m : List (Nat × α)) (h : above x m = true) : above x (drop m k) = true := by
  induction m with
  | nil => rfl
  | cons c m ih =>
    obtain ⟨j, w⟩ := c
    simp only [above_cons, Bool.and_eq_true, decide_eq_true_eq] at h
    unfold drop
    split
    · exact ih h.2
    · simp [h, ih h.2]

theorem above_mono (x y : Nat) (m : List (Nat × α)) (hxy : x < y) (h : above y m = true) : above x m = true := by
  induction m with
  | nil => rfl
  | cons c m ih =>
    obtain ⟨j, w⟩ := c
    simp only [above_cons, Bool.and_eq_true, decide_eq_true_eq] at h ⊢
    exact ⟨by omega, ih h.2⟩

theorem rising_put (k : Nat) (v : α) (m : List (Nat × α)) (h : rising m = true) : rising (put m k v) = true := by
  induction m with
  | nil => rfl
  | cons c m ih =>
    obtain ⟨j, w⟩ := c
    simp only [rising_cons, Bool.and_eq_true] at h
    unfold put
    split
    · next hk => simp [hk, h, above_mono k j m hk h.1]
    · split
      · next hk => subst hk; simp [h]
      · have hj : j < k := by omega
        simp [ih h.2, above_put j k v m hj h.1]

theorem rising_drop (k : Nat) (m : List (Nat × α)) (h : rising m = true) : rising (drop m k) = true := by
  induction m with
  | nil => rfl
  | cons c m ih =>
    obtain ⟨j, w⟩ := c
    simp only [rising_cons, Bool.and_eq_true] at h
    unfold drop
    split
    · exact ih h.2
    · simp [ih h.2, above_drop j k m h.1]

/-- A property of every cell is kept by listing a cell that has it. -/
theorem all_put (p : Nat × α → Bool) (m : List (Nat × α)) (k : Nat) (v : α) (h : m.all p = true)
    (hv : p (k, v) = true) : (put m k v).all p = true := by
  induction m with
  | nil => simp [put, hv]
  | cons c m ih =>
    obtain ⟨j, w⟩ := c
    simp only [List.all_cons, Bool.and_eq_true] at h
    unfold put
    split
    · simp [List.all_cons, hv, h.1, h.2]
    · split
      · simp [List.all_cons, hv, h.2]
      · simp [List.all_cons, h.1, ih h.2]

theorem all_drop (p : Nat × α → Bool) (m : List (Nat × α)) (k : Nat) (h : m.all p = true) :
    (drop m k).all p = true := by
  induction m with
  | nil => rfl
  | cons c m ih =>
    obtain ⟨j, w⟩ := c
    simp only [List.all_cons, Bool.and_eq_true] at h
    unfold drop
    split
    · exact ih h.2
    · simp [List.all_cons, h.1, ih h.2]

/-- A write keeps a property of every cell that the written cell has. -/
theorem all_write [DecidableEq α] (d : Nat → α) (p : Nat × α → Bool) (m : List (Nat × α)) (k : Nat) (v : α)
    (h : m.all p = true) (hv : p (k, v) = true) : (write d m k v).all p = true := by
  unfold write
  split
  · exact all_drop p m k h
  · exact all_put p m k v h hv

/-- A write keeps the canonical form. -/
theorem canonical_write [DecidableEq α] (d : Nat → α) (m : List (Nat × α)) (k : Nat) (v : α)
    (h : canonical d m = true) : canonical d (write d m k v) = true := by
  simp only [canonical, Bool.and_eq_true] at h ⊢
  unfold write
  split
  · exact ⟨rising_drop k m h.1, all_drop _ m k h.2⟩
  · next hv => exact ⟨rising_put k v m h.1, all_put _ m k v h.2 (by simpa using hv)⟩

@[simp] theorem canonical_nil [DecidableEq α] (d : Nat → α) : canonical d ([] : List (Nat × α)) = true := rfl

end Sparse
end Machine
end Sys2Proof
end

