-- ==== Sys2Proof/Laws/State.lean ====
section
/-! SUPPORT. One lemma for each field after each field update, and two updates of one field. -/

namespace Sys2Proof
namespace Machine

variable (s : State)

/-! ### `setA` -/

@[simp] theorem State.setA_a (v) : (s.setA v).a = v := rfl
@[simp] theorem State.setA_b (v) : (s.setA v).b = s.b := rfl
@[simp] theorem State.setA_c (v) : (s.setA v).c = s.c := rfl
@[simp] theorem State.setA_d (v) : (s.setA v).d = s.d := rfl
@[simp] theorem State.setA_e (v) : (s.setA v).e = s.e := rfl
@[simp] theorem State.setA_h (v) : (s.setA v).h = s.h := rfl
@[simp] theorem State.setA_l (v) : (s.setA v).l = s.l := rfl
@[simp] theorem State.setA_flags (v) : (s.setA v).flags = s.flags := rfl
@[simp] theorem State.setA_sp (v) : (s.setA v).sp = s.sp := rfl
@[simp] theorem State.setA_pc (v) : (s.setA v).pc = s.pc := rfl
@[simp] theorem State.setA_halted (v) : (s.setA v).halted = s.halted := rfl
@[simp] theorem State.setA_stopped (v) : (s.setA v).stopped = s.stopped := rfl
@[simp] theorem State.setA_fault (v) : (s.setA v).fault = s.fault := rfl
@[simp] theorem State.setA_cycles (v) : (s.setA v).cycles = s.cycles := rfl
@[simp] theorem State.setA_ime (v) : (s.setA v).ime = s.ime := rfl
@[simp] theorem State.setA_imeDelay (v) : (s.setA v).imeDelay = s.imeDelay := rfl
@[simp] theorem State.setA_raw (v) : (s.setA v).raw = s.raw := rfl
@[simp] theorem State.setA_bootActive (v) : (s.setA v).bootActive = s.bootActive := rfl
@[simp] theorem State.setA_cartBank (v) : (s.setA v).cartBank = s.cartBank := rfl
@[simp] theorem State.setA_params (v) : (s.setA v).params = s.params := rfl
@[simp] theorem State.setA_rom (v) : (s.setA v).rom = s.rom := rfl
@[simp] theorem State.setA_boot (v) : (s.setA v).boot = s.boot := rfl
@[simp] theorem State.setA_lastSample (v) : (s.setA v).lastSample = s.lastSample := rfl
@[simp] theorem State.setA_pendingOverflow (v) : (s.setA v).pendingOverflow = s.pendingOverflow := rfl
@[simp] theorem State.setA_lcdMode (v) : (s.setA v).lcdMode = s.lcdMode := rfl
@[simp] theorem State.setA_lcdAcc (v) : (s.setA v).lcdAcc = s.lcdAcc := rfl
@[simp] theorem State.setA_back (v) : (s.setA v).back = s.back := rfl
@[simp] theorem State.setA_frame (v) : (s.setA v).frame = s.frame := rfl
@[simp] theorem State.setA_frameReady (v) : (s.setA v).frameReady = s.frameReady := rfl
@[simp] theorem State.setA_setA (v w) : (s.setA v).setA w = s.setA w := rfl
@[simp] theorem State.setA_self : s.setA s.a = s := rfl

/-! ### `setB` -/

@[simp] theorem State.setB_a (v) : (s.setB v).a = s.a := rfl
@[simp] theorem State.setB_b (v) : (s.setB v).b = v := rfl
@[simp] theorem State.setB_c (v) : (s.setB v).c = s.c := rfl
@[simp] theorem State.setB_d (v) : (s.setB v).d = s.d := rfl
@[simp] theorem State.setB_e (v) : (s.setB v).e = s.e := rfl
@[simp] theorem State.setB_h (v) : (s.setB v).h = s.h := rfl
@[simp] theorem State.setB_l (v) : (s.setB v).l = s.l := rfl
@[simp] theorem State.setB_flags (v) : (s.setB v).flags = s.flags := rfl
@[simp] theorem State.setB_sp (v) : (s.setB v).sp = s.sp := rfl
@[simp] theorem State.setB_pc (v) : (s.setB v).pc = s.pc := rfl
@[simp] theorem State.setB_halted (v) : (s.setB v).halted = s.halted := rfl
@[simp] theorem State.setB_stopped (v) : (s.setB v).stopped = s.stopped := rfl
@[simp] theorem State.setB_fault (v) : (s.setB v).fault = s.fault := rfl
@[simp] theorem State.setB_cycles (v) : (s.setB v).cycles = s.cycles := rfl
@[simp] theorem State.setB_ime (v) : (s.setB v).ime = s.ime := rfl
@[simp] theorem State.setB_imeDelay (v) : (s.setB v).imeDelay = s.imeDelay := rfl
@[simp] theorem State.setB_raw (v) : (s.setB v).raw = s.raw := rfl
@[simp] theorem State.setB_bootActive (v) : (s.setB v).bootActive = s.bootActive := rfl
@[simp] theorem State.setB_cartBank (v) : (s.setB v).cartBank = s.cartBank := rfl
@[simp] theorem State.setB_params (v) : (s.setB v).params = s.params := rfl
@[simp] theorem State.setB_rom (v) : (s.setB v).rom = s.rom := rfl
@[simp] theorem State.setB_boot (v) : (s.setB v).boot = s.boot := rfl
@[simp] theorem State.setB_lastSample (v) : (s.setB v).lastSample = s.lastSample := rfl
@[simp] theorem State.setB_pendingOverflow (v) : (s.setB v).pendingOverflow = s.pendingOverflow := rfl
@[simp] theorem State.setB_lcdMode (v) : (s.setB v).lcdMode = s.lcdMode := rfl
@[simp] theorem State.setB_lcdAcc (v) : (s.setB v).lcdAcc = s.lcdAcc := rfl
@[simp] theorem State.setB_back (v) : (s.setB v).back = s.back := rfl
@[simp] theorem State.setB_frame (v) : (s.setB v).frame = s.frame := rfl
@[simp] theorem State.setB_frameReady (v) : (s.setB v).frameReady = s.frameReady := rfl
@[simp] theorem State.setB_setB (v w) : (s.setB v).setB w = s.setB w := rfl
@[simp] theorem State.setB_self : s.setB s.b = s := rfl

/-! ### `setC` -/

@[simp] theorem State.setC_a (v) : (s.setC v).a = s.a := rfl
@[simp] theorem State.setC_b (v) : (s.setC v).b = s.b := rfl
@[simp] theorem State.setC_c (v) : (s.setC v).c = v := rfl
@[simp] theorem State.setC_d (v) : (s.setC v).d = s.d := rfl
@[simp] theorem State.setC_e (v) : (s.setC v).e = s.e := rfl
@[simp] theorem State.setC_h (v) : (s.setC v).h = s.h := rfl
@[simp] theorem State.setC_l (v) : (s.setC v).l = s.l := rfl
@[simp] theorem State.setC_flags (v) : (s.setC v).flags = s.flags := rfl
@[simp] theorem State.setC_sp (v) : (s.setC v).sp = s.sp := rfl
@[simp] theorem State.setC_pc (v) : (s.setC v).pc = s.pc := rfl
@[simp] theorem State.setC_halted (v) : (s.setC v).halted = s.halted := rfl
@[simp] theorem State.setC_stopped (v) : (s.setC v).stopped = s.stopped := rfl
@[simp] theorem State.setC_fault (v) : (s.setC v).fault = s.fault := rfl
@[simp] theorem State.setC_cycles (v) : (s.setC v).cycles = s.cycles := rfl
@[simp] theorem State.setC_ime (v) : (s.setC v).ime = s.ime := rfl
@[simp] theorem State.setC_imeDelay (v) : (s.setC v).imeDelay = s.imeDelay := rfl
@[simp] theorem State.setC_raw (v) : (s.setC v).raw = s.raw := rfl
@[simp] theorem State.setC_bootActive (v) : (s.setC v).bootActive = s.bootActive := rfl
@[simp] theorem State.setC_cartBank (v) : (s.setC v).cartBank = s.cartBank := rfl
@[simp] theorem State.setC_params (v) : (s.setC v).params = s.params := rfl
@[simp] theorem State.setC_rom (v) : (s.setC v).rom = s.rom := rfl
@[simp] theorem State.setC_boot (v) : (s.setC v).boot = s.boot := rfl
@[simp] theorem State.setC_lastSample (v) : (s.setC v).lastSample = s.lastSample := rfl
@[simp] theorem State.setC_pendingOverflow (v) : (s.setC v).pendingOverflow = s.pendingOverflow := rfl
@[simp] theorem State.setC_lcdMode (v) : (s.setC v).lcdMode = s.lcdMode := rfl
@[simp] theorem State.setC_lcdAcc (v) : (s.setC v).lcdAcc = s.lcdAcc := rfl
@[simp] theorem State.setC_back (v) : (s.setC v).back = s.back := rfl
@[simp] theorem State.setC_frame (v) : (s.setC v).frame = s.frame := rfl
@[simp] theorem State.setC_frameReady (v) : (s.setC v).frameReady = s.frameReady := rfl
@[simp] theorem State.setC_setC (v w) : (s.setC v).setC w = s.setC w := rfl
@[simp] theorem State.setC_self : s.setC s.c = s := rfl

/-! ### `setD` -/

@[simp] theorem State.setD_a (v) : (s.setD v).a = s.a := rfl
@[simp] theorem State.setD_b (v) : (s.setD v).b = s.b := rfl
@[simp] theorem State.setD_c (v) : (s.setD v).c = s.c := rfl
@[simp] theorem State.setD_d (v) : (s.setD v).d = v := rfl
@[simp] theorem State.setD_e (v) : (s.setD v).e = s.e := rfl
@[simp] theorem State.setD_h (v) : (s.setD v).h = s.h := rfl
@[simp] theorem State.setD_l (v) : (s.setD v).l = s.l := rfl
@[simp] theorem State.setD_flags (v) : (s.setD v).flags = s.flags := rfl
@[simp] theorem State.setD_sp (v) : (s.setD v).sp = s.sp := rfl
@[simp] theorem State.setD_pc (v) : (s.setD v).pc = s.pc := rfl
@[simp] theorem State.setD_halted (v) : (s.setD v).halted = s.halted := rfl
@[simp] theorem State.setD_stopped (v) : (s.setD v).stopped = s.stopped := rfl
@[simp] theorem State.setD_fault (v) : (s.setD v).fault = s.fault := rfl
@[simp] theorem State.setD_cycles (v) : (s.setD v).cycles = s.cycles := rfl
@[simp] theorem State.setD_ime (v) : (s.setD v).ime = s.ime := rfl
@[simp] theorem State.setD_imeDelay (v) : (s.setD v).imeDelay = s.imeDelay := rfl
@[simp] theorem State.setD_raw (v) : (s.setD v).raw = s.raw := rfl
@[simp] theorem State.setD_bootActive (v) : (s.setD v).bootActive = s.bootActive := rfl
@[simp] theorem State.setD_cartBank (v) : (s.setD v).cartBank = s.cartBank := rfl
@[simp] theorem State.setD_params (v) : (s.setD v).params = s.params := rfl
@[simp] theorem State.setD_rom (v) : (s.setD v).rom = s.rom := rfl
@[simp] theorem State.setD_boot (v) : (s.setD v).boot = s.boot := rfl
@[simp] theorem State.setD_lastSample (v) : (s.setD v).lastSample = s.lastSample := rfl
@[simp] theorem State.setD_pendingOverflow (v) : (s.setD v).pendingOverflow = s.pendingOverflow := rfl
@[simp] theorem State.setD_lcdMode (v) : (s.setD v).lcdMode = s.lcdMode := rfl
@[simp] theorem State.setD_lcdAcc (v) : (s.setD v).lcdAcc = s.lcdAcc := rfl
@[simp] theorem State.setD_back (v) : (s.setD v).back = s.back := rfl
@[simp] theorem State.setD_frame (v) : (s.setD v).frame = s.frame := rfl
@[simp] theorem State.setD_frameReady (v) : (s.setD v).frameReady = s.frameReady := rfl
@[simp] theorem State.setD_setD (v w) : (s.setD v).setD w = s.setD w := rfl
@[simp] theorem State.setD_self : s.setD s.d = s := rfl

/-! ### `setE` -/

@[simp] theorem State.setE_a (v) : (s.setE v).a = s.a := rfl
@[simp] theorem State.setE_b (v) : (s.setE v).b = s.b := rfl
@[simp] theorem State.setE_c (v) : (s.setE v).c = s.c := rfl
@[simp] theorem State.setE_d (v) : (s.setE v).d = s.d := rfl
@[simp] theorem State.setE_e (v) : (s.setE v).e = v := rfl
@[simp] theorem State.setE_h (v) : (s.setE v).h = s.h := rfl
@[simp] theorem State.setE_l (v) : (s.setE v).l = s.l := rfl
@[simp] theorem State.setE_flags (v) : (s.setE v).flags = s.flags := rfl
@[simp] theorem State.setE_sp (v) : (s.setE v).sp = s.sp := rfl
@[simp] theorem State.setE_pc (v) : (s.setE v).pc = s.pc := rfl
@[simp] theorem State.setE_halted (v) : (s.setE v).halted = s.halted := rfl
@[simp] theorem State.setE_stopped (v) : (s.setE v).stopped = s.stopped := rfl
@[simp] theorem State.setE_fault (v) : (s.setE v).fault = s.fault := rfl
@[simp] theorem State.setE_cycles (v) : (s.setE v).cycles = s.cycles := rfl
@[simp] theorem State.setE_ime (v) : (s.setE v).ime = s.ime := rfl
@[simp] theorem State.setE_imeDelay (v) : (s.setE v).imeDelay = s.imeDelay := rfl
@[simp] theorem State.setE_raw (v) : (s.setE v).raw = s.raw := rfl
@[simp] theorem State.setE_bootActive (v) : (s.setE v).bootActive = s.bootActive := rfl
@[simp] theorem State.setE_cartBank (v) : (s.setE v).cartBank = s.cartBank := rfl
@[simp] theorem State.setE_params (v) : (s.setE v).params = s.params := rfl
@[simp] theorem State.setE_rom (v) : (s.setE v).rom = s.rom := rfl
@[simp] theorem State.setE_boot (v) : (s.setE v).boot = s.boot := rfl
@[simp] theorem State.setE_lastSample (v) : (s.setE v).lastSample = s.lastSample := rfl
@[simp] theorem State.setE_pendingOverflow (v) : (s.setE v).pendingOverflow = s.pendingOverflow := rfl
@[simp] theorem State.setE_lcdMode (v) : (s.setE v).lcdMode = s.lcdMode := rfl
@[simp] theorem State.setE_lcdAcc (v) : (s.setE v).lcdAcc = s.lcdAcc := rfl
@[simp] theorem State.setE_back (v) : (s.setE v).back = s.back := rfl
@[simp] theorem State.setE_frame (v) : (s.setE v).frame = s.frame := rfl
@[simp] theorem State.setE_frameReady (v) : (s.setE v).frameReady = s.frameReady := rfl
@[simp] theorem State.setE_setE (v w) : (s.setE v).setE w = s.setE w := rfl
@[simp] theorem State.setE_self : s.setE s.e = s := rfl

/-! ### `setH` -/

@[simp] theorem State.setH_a (v) : (s.setH v).a = s.a := rfl
@[simp] theorem State.setH_b (v) : (s.setH v).b = s.b := rfl
@[simp] theorem State.setH_c (v) : (s.setH v).c = s.c := rfl
@[simp] theorem State.setH_d (v) : (s.setH v).d = s.d := rfl
@[simp] theorem State.setH_e (v) : (s.setH v).e = s.e := rfl
@[simp] theorem State.setH_h (v) : (s.setH v).h = v := rfl
@[simp] theorem State.setH_l (v) : (s.setH v).l = s.l := rfl
@[simp] theorem State.setH_flags (v) : (s.setH v).flags = s.flags := rfl
@[simp] theorem State.setH_sp (v) : (s.setH v).sp = s.sp := rfl
@[simp] theorem State.setH_pc (v) : (s.setH v).pc = s.pc := rfl
@[simp] theorem State.setH_halted (v) : (s.setH v).halted = s.halted := rfl
@[simp] theorem State.setH_stopped (v) : (s.setH v).stopped = s.stopped := rfl
@[simp] theorem State.setH_fault (v) : (s.setH v).fault = s.fault := rfl
@[simp] theorem State.setH_cycles (v) : (s.setH v).cycles = s.cycles := rfl
@[simp] theorem State.setH_ime (v) : (s.setH v).ime = s.ime := rfl
@[simp] theorem State.setH_imeDelay (v) : (s.setH v).imeDelay = s.imeDelay := rfl
@[simp] theorem State.setH_raw (v) : (s.setH v).raw = s.raw := rfl
@[simp] theorem State.setH_bootActive (v) : (s.setH v).bootActive = s.bootActive := rfl
@[simp] theorem State.setH_cartBank (v) : (s.setH v).cartBank = s.cartBank := rfl
@[simp] theorem State.setH_params (v) : (s.setH v).params = s.params := rfl
@[simp] theorem State.setH_rom (v) : (s.setH v).rom = s.rom := rfl
@[simp] theorem State.setH_boot (v) : (s.setH v).boot = s.boot := rfl
@[simp] theorem State.setH_lastSample (v) : (s.setH v).lastSample = s.lastSample := rfl
@[simp] theorem State.setH_pendingOverflow (v) : (s.setH v).pendingOverflow = s.pendingOverflow := rfl
@[simp] theorem State.setH_lcdMode (v) : (s.setH v).lcdMode = s.lcdMode := rfl
@[simp] theorem State.setH_lcdAcc (v) : (s.setH v).lcdAcc = s.lcdAcc := rfl
@[simp] theorem State.setH_back (v) : (s.setH v).back = s.back := rfl
@[simp] theorem State.setH_frame (v) : (s.setH v).frame = s.frame := rfl
@[simp] theorem State.setH_frameReady (v) : (s.setH v).frameReady = s.frameReady := rfl
@[simp] theorem State.setH_setH (v w) : (s.setH v).setH w = s.setH w := rfl
@[simp] theorem State.setH_self : s.setH s.h = s := rfl

/-! ### `setL` -/

@[simp] theorem State.setL_a (v) : (s.setL v).a = s.a := rfl
@[simp] theorem State.setL_b (v) : (s.setL v).b = s.b := rfl
@[simp] theorem State.setL_c (v) : (s.setL v).c = s.c := rfl
@[simp] theorem State.setL_d (v) : (s.setL v).d = s.d := rfl
@[simp] theorem State.setL_e (v) : (s.setL v).e = s.e := rfl
@[simp] theorem State.setL_h (v) : (s.setL v).h = s.h := rfl
@[simp] theorem State.setL_l (v) : (s.setL v).l = v := rfl
@[simp] theorem State.setL_flags (v) : (s.setL v).flags = s.flags := rfl
@[simp] theorem State.setL_sp (v) : (s.setL v).sp = s.sp := rfl
@[simp] theorem State.setL_pc (v) : (s.setL v).pc = s.pc := rfl
@[simp] theorem State.setL_halted (v) : (s.setL v).halted = s.halted := rfl
@[simp] theorem State.setL_stopped (v) : (s.setL v).stopped = s.stopped := rfl
@[simp] theorem State.setL_fault (v) : (s.setL v).fault = s.fault := rfl
@[simp] theorem State.setL_cycles (v) : (s.setL v).cycles = s.cycles := rfl
@[simp] theorem State.setL_ime (v) : (s.setL v).ime = s.ime := rfl
@[simp] theorem State.setL_imeDelay (v) : (s.setL v).imeDelay = s.imeDelay := rfl
@[simp] theorem State.setL_raw (v) : (s.setL v).raw = s.raw := rfl
@[simp] theorem State.setL_bootActive (v) : (s.setL v).bootActive = s.bootActive := rfl
@[simp] theorem State.setL_cartBank (v) : (s.setL v).cartBank = s.cartBank := rfl
@[simp] theorem State.setL_params (v) : (s.setL v).params = s.params := rfl
@[simp] theorem State.setL_rom (v) : (s.setL v).rom = s.rom := rfl
@[simp] theorem State.setL_boot (v) : (s.setL v).boot = s.boot := rfl
@[simp] theorem State.setL_lastSample (v) : (s.setL v).lastSample = s.lastSample := rfl
@[simp] theorem State.setL_pendingOverflow (v) : (s.setL v).pendingOverflow = s.pendingOverflow := rfl
@[simp] theorem State.setL_lcdMode (v) : (s.setL v).lcdMode = s.lcdMode := rfl
@[simp] theorem State.setL_lcdAcc (v) : (s.setL v).lcdAcc = s.lcdAcc := rfl
@[simp] theorem State.setL_back (v) : (s.setL v).back = s.back := rfl
@[simp] theorem State.setL_frame (v) : (s.setL v).frame = s.frame := rfl
@[simp] theorem State.setL_frameReady (v) : (s.setL v).frameReady = s.frameReady := rfl
@[simp] theorem State.setL_setL (v w) : (s.setL v).setL w = s.setL w := rfl
@[simp] theorem State.setL_self : s.setL s.l = s := rfl

/-! ### `setFlags` -/

@[simp] theorem State.setFlags_a (v) : (s.setFlags v).a = s.a := rfl
@[simp] theorem State.setFlags_b (v) : (s.setFlags v).b = s.b := rfl
@[simp] theorem State.setFlags_c (v) : (s.setFlags v).c = s.c := rfl
@[simp] theorem State.setFlags_d (v) : (s.setFlags v).d = s.d := rfl
@[simp] theorem State.setFlags_e (v) : (s.setFlags v).e = s.e := rfl
@[simp] theorem State.setFlags_h (v) : (s.setFlags v).h = s.h := rfl
@[simp] theorem State.setFlags_l (v) : (s.setFlags v).l = s.l := rfl
@[simp] theorem State.setFlags_flags (v) : (s.setFlags v).flags = v := rfl
@[simp] theorem State.setFlags_sp (v) : (s.setFlags v).sp = s.sp := rfl
@[simp] theorem State.setFlags_pc (v) : (s.setFlags v).pc = s.pc := rfl
@[simp] theorem State.setFlags_halted (v) : (s.setFlags v).halted = s.halted := rfl
@[simp] theorem State.setFlags_stopped (v) : (s.setFlags v).stopped = s.stopped := rfl
@[simp] theorem State.setFlags_fault (v) : (s.setFlags v).fault = s.fault := rfl
@[simp] theorem State.setFlags_cycles (v) : (s.setFlags v).cycles = s.cycles := rfl
@[simp] theorem State.setFlags_ime (v) : (s.setFlags v).ime = s.ime := rfl
@[simp] theorem State.setFlags_imeDelay (v) : (s.setFlags v).imeDelay = s.imeDelay := rfl
@[simp] theorem State.setFlags_raw (v) : (s.setFlags v).raw = s.raw := rfl
@[simp] theorem State.setFlags_bootActive (v) : (s.setFlags v).bootActive = s.bootActive := rfl
@[simp] theorem State.setFlags_cartBank (v) : (s.setFlags v).cartBank = s.cartBank := rfl
@[simp] theorem State.setFlags_params (v) : (s.setFlags v).params = s.params := rfl
@[simp] theorem State.setFlags_rom (v) : (s.setFlags v).rom = s.rom := rfl
@[simp] theorem State.setFlags_boot (v) : (s.setFlags v).boot = s.boot := rfl
@[simp] theorem State.setFlags_lastSample (v) : (s.setFlags v).lastSample = s.lastSample := rfl
@[simp] theorem State.setFlags_pendingOverflow (v) : (s.setFlags v).pendingOverflow = s.pendingOverflow := rfl
@[simp] theorem State.setFlags_lcdMode (v) : (s.setFlags v).lcdMode = s.lcdMode := rfl
@[simp] theorem State.setFlags_lcdAcc (v) : (s.setFlags v).lcdAcc = s.lcdAcc := rfl
@[simp] theorem State.setFlags_back (v) : (s.setFlags v).back = s.back := rfl
@[simp] theorem State.setFlags_frame (v) : (s.setFlags v).frame = s.frame := rfl
@[simp] theorem State.setFlags_frameReady (v) : (s.setFlags v).frameReady = s.frameReady := rfl
@[simp] theorem State.setFlags_setFlags (v w) : (s.setFlags v).setFlags w = s.setFlags w := rfl
@[simp] theorem State.setFlags_self : s.setFlags s.flags = s := rfl

/-! ### `setSp` -/

@[simp] theorem State.setSp_a (v) : (s.setSp v).a = s.a := rfl
@[simp] theorem State.setSp_b (v) : (s.setSp v).b = s.b := rfl
@[simp] theorem State.setSp_c (v) : (s.setSp v).c = s.c := rfl
@[simp] theorem State.setSp_d (v) : (s.setSp v).d = s.d := rfl
@[simp] theorem State.setSp_e (v) : (s.setSp v).e = s.e := rfl
@[simp] theorem State.setSp_h (v) : (s.setSp v).h = s.h := rfl
@[simp] theorem State.setSp_l (v) : (s.setSp v).l = s.l := rfl
@[simp] theorem State.setSp_flags (v) : (s.setSp v).flags = s.flags := rfl
@[simp] theorem State.setSp_sp (v) : (s.setSp v).sp = v := rfl
@[simp] theorem State.setSp_pc (v) : (s.setSp v).pc = s.pc := rfl
@[simp] theorem State.setSp_halted (v) : (s.setSp v).halted = s.halted := rfl
@[simp] theorem State.setSp_stopped (v) : (s.setSp v).stopped = s.stopped := rfl
@[simp] theorem State.setSp_fault (v) : (s.setSp v).fault = s.fault := rfl
@[simp] theorem State.setSp_cycles (v) : (s.setSp v).cycles = s.cycles := rfl
@[simp] theorem State.setSp_ime (v) : (s.setSp v).ime = s.ime := rfl
@[simp] theorem State.setSp_imeDelay (v) : (s.setSp v).imeDelay = s.imeDelay := rfl
@[simp] theorem State.setSp_raw (v) : (s.setSp v).raw = s.raw := rfl
@[simp] theorem State.setSp_bootActive (v) : (s.setSp v).bootActive = s.bootActive := rfl
@[simp] theorem State.setSp_cartBank (v) : (s.setSp v).cartBank = s.cartBank := rfl
@[simp] theorem State.setSp_params (v) : (s.setSp v).params = s.params := rfl
@[simp] theorem State.setSp_rom (v) : (s.setSp v).rom = s.rom := rfl
@[simp] theorem State.setSp_boot (v) : (s.setSp v).boot = s.boot := rfl
@[simp] theorem State.setSp_lastSample (v) : (s.setSp v).lastSample = s.lastSample := rfl
@[simp] theorem State.setSp_pendingOverflow (v) : (s.setSp v).pendingOverflow = s.pendingOverflow := rfl
@[simp] theorem State.setSp_lcdMode (v) : (s.setSp v).lcdMode = s.lcdMode := rfl
@[simp] theorem State.setSp_lcdAcc (v) : (s.setSp v).lcdAcc = s.lcdAcc := rfl
@[simp] theorem State.setSp_back (v) : (s.setSp v).back = s.back := rfl
@[simp] theorem State.setSp_frame (v) : (s.setSp v).frame = s.frame := rfl
@[simp] theorem State.setSp_frameReady (v) : (s.setSp v).frameReady = s.frameReady := rfl
@[simp] theorem State.setSp_setSp (v w) : (s.setSp v).setSp w = s.setSp w := rfl
@[simp] theorem State.setSp_self : s.setSp s.sp = s := rfl

/-! ### `setPc` -/

@[simp] theorem State.setPc_a (v) : (s.setPc v).a = s.a := rfl
@[simp] theorem State.setPc_b (v) : (s.setPc v).b = s.b := rfl
@[simp] theorem State.setPc_c (v) : (s.setPc v).c = s.c := rfl
@[simp] theorem State.setPc_d (v) : (s.setPc v).d = s.d := rfl
@[simp] theorem State.setPc_e (v) : (s.setPc v).e = s.e := rfl
@[simp] theorem State.setPc_h (v) : (s.setPc v).h = s.h := rfl
@[simp] theorem State.setPc_l (v) : (s.setPc v).l = s.l := rfl
@[simp] theorem State.setPc_flags (v) : (s.setPc v).flags = s.flags := rfl
@[simp] theorem State.setPc_sp (v) : (s.setPc v).sp = s.sp := rfl
@[simp] theorem State.setPc_pc (v) : (s.setPc v).pc = v := rfl
@[simp] theorem State.setPc_halted (v) : (s.setPc v).halted = s.halted := rfl
@[simp] theorem State.setPc_stopped (v) : (s.setPc v).stopped = s.stopped := rfl
@[simp] theorem State.setPc_fault (v) : (s.setPc v).fault = s.fault := rfl
@[simp] theorem State.setPc_cycles (v) : (s.setPc v).cycles = s.cycles := rfl
@[simp] theorem State.setPc_ime (v) : (s.setPc v).ime = s.ime := rfl
@[simp] theorem State.setPc_imeDelay (v) : (s.setPc v).imeDelay = s.imeDelay := rfl
@[simp] theorem State.setPc_raw (v) : (s.setPc v).raw = s.raw := rfl
@[simp] theorem State.setPc_bootActive (v) : (s.setPc v).bootActive = s.bootActive := rfl
@[simp] theorem State.setPc_cartBank (v) : (s.setPc v).cartBank = s.cartBank := rfl
@[simp] theorem State.setPc_params (v) : (s.setPc v).params = s.params := rfl
@[simp] theorem State.setPc_rom (v) : (s.setPc v).rom = s.rom := rfl
@[simp] theorem State.setPc_boot (v) : (s.setPc v).boot = s.boot := rfl
@[simp] theorem State.setPc_lastSample (v) : (s.setPc v).lastSample = s.lastSample := rfl
@[simp] theorem State.setPc_pendingOverflow (v) : (s.setPc v).pendingOverflow = s.pendingOverflow := rfl
@[simp] theorem State.setPc_lcdMode (v) : (s.setPc v).lcdMode = s.lcdMode := rfl
@[simp] theorem State.setPc_lcdAcc (v) : (s.setPc v).lcdAcc = s.lcdAcc := rfl
@[simp] theorem State.setPc_back (v) : (s.setPc v).back = s.back := rfl
@[simp] theorem State.setPc_frame (v) : (s.setPc v).frame = s.frame := rfl
@[simp] theorem State.setPc_frameReady (v) : (s.setPc v).frameReady = s.frameReady := rfl
@[simp] theorem State.setPc_setPc (v w) : (s.setPc v).setPc w = s.setPc w := rfl
@[simp] theorem State.setPc_self : s.setPc s.pc = s := rfl

/-! ### `setHalted` -/

@[simp] theorem State.setHalted_a (v) : (s.setHalted v).a = s.a := rfl
@[simp] theorem State.setHalted_b (v) : (s.setHalted v).b = s.b := rfl
@[simp] theorem State.setHalted_c (v) : (s.setHalted v).c = s.c := rfl
@[simp] theorem State.setHalted_d (v) : (s.setHalted v).d = s.d := rfl
@[simp] theorem State.setHalted_e (v) : (s.setHalted v).e = s.e := rfl
@[simp] theorem State.setHalted_h (v) : (s.setHalted v).h = s.h := rfl
@[simp] theorem State.setHalted_l (v) : (s.setHalted v).l = s.l := rfl
@[simp] theorem State.setHalted_flags (v) : (s.setHalted v).flags = s.flags := rfl
@[simp] theorem State.setHalted_sp (v) : (s.setHalted v).sp = s.sp := rfl
@[simp] theorem State.setHalted_pc (v) : (s.setHalted v).pc = s.pc := rfl
@[simp] theorem State.setHalted_halted (v) : (s.setHalted v).halted = v := rfl
@[simp] theorem State.setHalted_stopped (v) : (s.setHalted v).stopped = s.stopped := rfl
@[simp] theorem State.setHalted_fault (v) : (s.setHalted v).fault = s.fault := rfl
@[simp] theorem State.setHalted_cycles (v) : (s.setHalted v).cycles = s.cycles := rfl
@[simp] theorem State.setHalted_ime (v) : (s.setHalted v).ime = s.ime := rfl
@[simp] theorem State.setHalted_imeDelay (v) : (s.setHalted v).imeDelay = s.imeDelay := rfl
@[simp] theorem State.setHalted_raw (v) : (s.setHalted v).raw = s.raw := rfl
@[simp] theorem State.setHalted_bootActive (v) : (s.setHalted v).bootActive = s.bootActive := rfl
@[simp] theorem State.setHalted_cartBank (v) : (s.setHalted v).cartBank = s.cartBank := rfl
@[simp] theorem State.setHalted_params (v) : (s.setHalted v).params = s.params := rfl
@[simp] theorem State.setHalted_rom (v) : (s.setHalted v).rom = s.rom := rfl
@[simp] theorem State.setHalted_boot (v) : (s.setHalted v).boot = s.boot := rfl
@[simp] theorem State.setHalted_lastSample (v) : (s.setHalted v).lastSample = s.lastSample := rfl
@[simp] theorem State.setHalted_pendingOverflow (v) : (s.setHalted v).pendingOverflow = s.pendingOverflow := rfl
@[simp] theorem State.setHalted_lcdMode (v) : (s.setHalted v).lcdMode = s.lcdMode := rfl
@[simp] theorem State.setHalted_lcdAcc (v) : (s.setHalted v).lcdAcc = s.lcdAcc := rfl
@[simp] theorem State.setHalted_back (v) : (s.setHalted v).back = s.back := rfl
@[simp] theorem State.setHalted_frame (v) : (s.setHalted v).frame = s.frame := rfl
@[simp] theorem State.setHalted_frameReady (v) : (s.setHalted v).frameReady = s.frameReady := rfl
@[simp] theorem State.setHalted_setHalted (v w) : (s.setHalted v).setHalted w = s.setHalted w := rfl
@[simp] theorem State.setHalted_self : s.setHalted s.halted = s := rfl

/-! ### `setStopped` -/

@[simp] theorem State.setStopped_a (v) : (s.setStopped v).a = s.a := rfl
@[simp] theorem State.setStopped_b (v) : (s.setStopped v).b = s.b := rfl
@[simp] theorem State.setStopped_c (v) : (s.setStopped v).c = s.c := rfl
@[simp] theorem State.setStopped_d (v) : (s.setStopped v).d = s.d := rfl
@[simp] theorem State.setStopped_e (v) : (s.setStopped v).e = s.e := rfl
@[simp] theorem State.setStopped_h (v) : (s.setStopped v).h = s.h := rfl
@[simp] theorem State.setStopped_l (v) : (s.setStopped v).l = s.l := rfl
@[simp] theorem State.setStopped_flags (v) : (s.setStopped v).flags = s.flags := rfl
@[simp] theorem State.setStopped_sp (v) : (s.setStopped v).sp = s.sp := rfl
@[simp] theorem State.setStopped_pc (v) : (s.setStopped v).pc = s.pc := rfl
@[simp] theorem State.setStopped_halted (v) : (s.setStopped v).halted = s.halted := rfl
@[simp] theorem State.setStopped_stopped (v) : (s.setStopped v).stopped = v := rfl
@[simp] theorem State.setStopped_fault (v) : (s.setStopped v).fault = s.fault := rfl
@[simp] theorem State.setStopped_cycles (v) : (s.setStopped v).cycles = s.cycles := rfl
@[simp] theorem State.setStopped_ime (v) : (s.setStopped v).ime = s.ime := rfl
@[simp] theorem State.setStopped_imeDelay (v) : (s.setStopped v).imeDelay = s.imeDelay := rfl
@[simp] theorem State.setStopped_raw (v) : (s.setStopped v).raw = s.raw := rfl
@[simp] theorem State.setStopped_bootActive (v) : (s.setStopped v).bootActive = s.bootActive := rfl
@[simp] theorem State.setStopped_cartBank (v) : (s.setStopped v).cartBank = s.cartBank := rfl
@[simp] theorem State.setStopped_params (v) : (s.setStopped v).params = s.params := rfl
@[simp] theorem State.setStopped_rom (v) : (s.setStopped v).rom = s.rom := rfl
@[simp] theorem State.setStopped_boot (v) : (s.setStopped v).boot = s.boot := rfl
@[simp] theorem State.setStopped_lastSample (v) : (s.setStopped v).lastSample = s.lastSample := rfl
@[simp] theorem State.setStopped_pendingOverflow (v) : (s.setStopped v).pendingOverflow = s.pendingOverflow := rfl
@[simp] theorem State.setStopped_lcdMode (v) : (s.setStopped v).lcdMode = s.lcdMode := rfl
@[simp] theorem State.setStopped_lcdAcc (v) : (s.setStopped v).lcdAcc = s.lcdAcc := rfl
@[simp] theorem State.setStopped_back (v) : (s.setStopped v).back = s.back := rfl
@[simp] theorem State.setStopped_frame (v) : (s.setStopped v).frame = s.frame := rfl
@[simp] theorem State.setStopped_frameReady (v) : (s.setStopped v).frameReady = s.frameReady := rfl
@[simp] theorem State.setStopped_setStopped (v w) : (s.setStopped v).setStopped w = s.setStopped w := rfl
@[simp] theorem State.setStopped_self : s.setStopped s.stopped = s := rfl

/-! ### `setFault` -/

@[simp] theorem State.setFault_a (v) : (s.setFault v).a = s.a := rfl
@[simp] theorem State.setFault_b (v) : (s.setFault v).b = s.b := rfl
@[simp] theorem State.setFault_c (v) : (s.setFault v).c = s.c := rfl
@[simp] theorem State.setFault_d (v) : (s.setFault v).d = s.d := rfl
@[simp] theorem State.setFault_e (v) : (s.setFault v).e = s.e := rfl
@[simp] theorem State.setFault_h (v) : (s.setFault v).h = s.h := rfl
@[simp] theorem State.setFault_l (v) : (s.setFault v).l = s.l := rfl
@[simp] theorem State.setFault_flags (v) : (s.setFault v).flags = s.flags := rfl
@[simp] theorem State.setFault_sp (v) : (s.setFault v).sp = s.sp := rfl
@[simp] theorem State.setFault_pc (v) : (s.setFault v).pc = s.pc := rfl
@[simp] theorem State.setFault_halted (v) : (s.setFault v).halted = s.halted := rfl
@[simp] theorem State.setFault_stopped (v) : (s.setFault v).stopped = s.stopped := rfl
@[simp] theorem State.setFault_fault (v) : (s.setFault v).fault = v := rfl
@[simp] theorem State.setFault_cycles (v) : (s.setFault v).cycles = s.cycles := rfl
@[simp] theorem State.setFault_ime (v) : (s.setFault v).ime = s.ime := rfl
@[simp] theorem State.setFault_imeDelay (v) : (s.setFault v).imeDelay = s.imeDelay := rfl
@[simp] theorem State.setFault_raw (v) : (s.setFault v).raw = s.raw := rfl
@[simp] theorem State.setFault_bootActive (v) : (s.setFault v).bootActive = s.bootActive := rfl
@[simp] theorem State.setFault_cartBank (v) : (s.setFault v).cartBank = s.cartBank := rfl
@[simp] theorem State.setFault_params (v) : (s.setFault v).params = s.params := rfl
@[simp] theorem State.setFault_rom (v) : (s.setFault v).rom = s.rom := rfl
@[simp] theorem State.setFault_boot (v) : (s.setFault v).boot = s.boot := rfl
@[simp] theorem State.setFault_lastSample (v) : (s.setFault v).lastSample = s.lastSample := rfl
@[simp] theorem State.setFault_pendingOverflow (v) : (s.setFault v).pendingOverflow = s.pendingOverflow := rfl
@[simp] theorem State.setFault_lcdMode (v) : (s.setFault v).lcdMode = s.lcdMode := rfl
@[simp] theorem State.setFault_lcdAcc (v) : (s.setFault v).lcdAcc = s.lcdAcc := rfl
@[simp] theorem State.setFault_back (v) : (s.setFault v).back = s.back := rfl
@[simp] theorem State.setFault_frame (v) : (s.setFault v).frame = s.frame := rfl
@[simp] theorem State.setFault_frameReady (v) : (s.setFault v).frameReady = s.frameReady := rfl
@[simp] theorem State.setFault_setFault (v w) : (s.setFault v).setFault w = s.setFault w := rfl
@[simp] theorem State.setFault_self : s.setFault s.fault = s := rfl

/-! ### `setCycles` -/

@[simp] theorem State.setCycles_a (v) : (s.setCycles v).a = s.a := rfl
@[simp] theorem State.setCycles_b (v) : (s.setCycles v).b = s.b := rfl
@[simp] theorem State.setCycles_c (v) : (s.setCycles v).c = s.c := rfl
@[simp] theorem State.setCycles_d (v) : (s.setCycles v).d = s.d := rfl
@[simp] theorem State.setCycles_e (v) : (s.setCycles v).e = s.e := rfl
@[simp] theorem State.setCycles_h (v) : (s.setCycles v).h = s.h := rfl
@[simp] theorem State.setCycles_l (v) : (s.setCycles v).l = s.l := rfl
@[simp] theorem State.setCycles_flags (v) : (s.setCycles v).flags = s.flags := rfl
@[simp] theorem State.setCycles_sp (v) : (s.setCycles v).sp = s.sp := rfl
@[simp] theorem State.setCycles_pc (v) : (s.setCycles v).pc = s.pc := rfl
@[simp] theorem State.setCycles_halted (v) : (s.setCycles v).halted = s.halted := rfl
@[simp] theorem State.setCycles_stopped (v) : (s.setCycles v).stopped = s.stopped := rfl
@[simp] theorem State.setCycles_fault (v) : (s.setCycles v).fault = s.fault := rfl
@[simp] theorem State.setCycles_cycles (v) : (s.setCycles v).cycles = v := rfl
@[simp] theorem State.setCycles_ime (v) : (s.setCycles v).ime = s.ime := rfl
@[simp] theorem State.setCycles_imeDelay (v) : (s.setCycles v).imeDelay = s.imeDelay := rfl
@[simp] theorem State.setCycles_raw (v) : (s.setCycles v).raw = s.raw := rfl
@[simp] theorem State.setCycles_bootActive (v) : (s.setCycles v).bootActive = s.bootActive := rfl
@[simp] theorem State.setCycles_cartBank (v) : (s.setCycles v).cartBank = s.cartBank := rfl
@[simp] theorem State.setCycles_params (v) : (s.setCycles v).params = s.params := rfl
@[simp] theorem State.setCycles_rom (v) : (s.setCycles v).rom = s.rom := rfl
@[simp] theorem State.setCycles_boot (v) : (s.setCycles v).boot = s.boot := rfl
@[simp] theorem State.setCycles_lastSample (v) : (s.setCycles v).lastSample = s.lastSample := rfl
@[simp] theorem State.setCycles_pendingOverflow (v) : (s.setCycles v).pendingOverflow = s.pendingOverflow := rfl
@[simp] theorem State.setCycles_lcdMode (v) : (s.setCycles v).lcdMode = s.lcdMode := rfl
@[simp] theorem State.setCycles_lcdAcc (v) : (s.setCycles v).lcdAcc = s.lcdAcc := rfl
@[simp] theorem State.setCycles_back (v) : (s.setCycles v).back = s.back := rfl
@[simp] theorem State.setCycles_frame (v) : (s.setCycles v).frame = s.frame := rfl
@[simp] theorem State.setCycles_frameReady (v) : (s.setCycles v).frameReady = s.frameReady := rfl
@[simp] theorem State.setCycles_setCycles (v w) : (s.setCycles v).setCycles w = s.setCycles w := rfl
@[simp] theorem State.setCycles_self : s.setCycles s.cycles = s := rfl

/-! ### `setIme` -/

@[simp] theorem State.setIme_a (v) : (s.setIme v).a = s.a := rfl
@[simp] theorem State.setIme_b (v) : (s.setIme v).b = s.b := rfl
@[simp] theorem State.setIme_c (v) : (s.setIme v).c = s.c := rfl
@[simp] theorem State.setIme_d (v) : (s.setIme v).d = s.d := rfl
@[simp] theorem State.setIme_e (v) : (s.setIme v).e = s.e := rfl
@[simp] theorem State.setIme_h (v) : (s.setIme v).h = s.h := rfl
@[simp] theorem State.setIme_l (v) : (s.setIme v).l = s.l := rfl
@[simp] theorem State.setIme_flags (v) : (s.setIme v).flags = s.flags := rfl
@[simp] theorem State.setIme_sp (v) : (s.setIme v).sp = s.sp := rfl
@[simp] theorem State.setIme_pc (v) : (s.setIme v).pc = s.pc := rfl
@[simp] theorem State.setIme_halted (v) : (s.setIme v).halted = s.halted := rfl
@[simp] theorem State.setIme_stopped (v) : (s.setIme v).stopped = s.stopped := rfl
@[simp] theorem State.setIme_fault (v) : (s.setIme v).fault = s.fault := rfl
@[simp] theorem State.setIme_cycles (v) : (s.setIme v).cycles = s.cycles := rfl
@[simp] theorem State.setIme_ime (v) : (s.setIme v).ime = v := rfl
@[simp] theorem State.setIme_imeDelay (v) : (s.setIme v).imeDelay = s.imeDelay := rfl
@[simp] theorem State.setIme_raw (v) : (s.setIme v).raw = s.raw := rfl
@[simp] theorem State.setIme_bootActive (v) : (s.setIme v).bootActive = s.bootActive := rfl
@[simp] theorem State.setIme_cartBank (v) : (s.setIme v).cartBank = s.cartBank := rfl
@[simp] theorem State.setIme_params (v) : (s.setIme v).params = s.params := rfl
@[simp] theorem State.setIme_rom (v) : (s.setIme v).rom = s.rom := rfl
@[simp] theorem State.setIme_boot (v) : (s.setIme v).boot = s.boot := rfl
@[simp] theorem State.setIme_lastSample (v) : (s.setIme v).lastSample = s.lastSample := rfl
@[simp] theorem State.setIme_pendingOverflow (v) : (s.setIme v).pendingOverflow = s.pendingOverflow := rfl
@[simp] theorem State.setIme_lcdMode (v) : (s.setIme v).lcdMode = s.lcdMode := rfl
@[simp] theorem State.setIme_lcdAcc (v) : (s.setIme v).lcdAcc = s.lcdAcc := rfl
@[simp] theorem State.setIme_back (v) : (s.setIme v).back = s.back := rfl
@[simp] theorem State.setIme_frame (v) : (s.setIme v).frame = s.frame := rfl
@[simp] theorem State.setIme_frameReady (v) : (s.setIme v).frameReady = s.frameReady := rfl
@[simp] theorem State.setIme_setIme (v w) : (s.setIme v).setIme w = s.setIme w := rfl
@[simp] theorem State.setIme_self : s.setIme s.ime = s := rfl

/-! ### `setImeDelay` -/

@[simp] theorem State.setImeDelay_a (v) : (s.setImeDelay v).a = s.a := rfl
@[simp] theorem State.setImeDelay_b (v) : (s.setImeDelay v).b = s.b := rfl
@[simp] theorem State.setImeDelay_c (v) : (s.setImeDelay v).c = s.c := rfl
@[simp] theorem State.setImeDelay_d (v) : (s.setImeDelay v).d = s.d := rfl
@[simp] theorem State.setImeDelay_e (v) : (s.setImeDelay v).e = s.e := rfl
@[simp] theorem State.setImeDelay_h (v) : (s.setImeDelay v).h = s.h := rfl
@[simp] theorem State.setImeDelay_l (v) : (s.setImeDelay v).l = s.l := rfl
@[simp] theorem State.setImeDelay_flags (v) : (s.setImeDelay v).flags = s.flags := rfl
@[simp] theorem State.setImeDelay_sp (v) : (s.setImeDelay v).sp = s.sp := rfl
@[simp] theorem State.setImeDelay_pc (v) : (s.setImeDelay v).pc = s.pc := rfl
@[simp] theorem State.setImeDelay_halted (v) : (s.setImeDelay v).halted = s.halted := rfl
@[simp] theorem State.setImeDelay_stopped (v) : (s.setImeDelay v).stopped = s.stopped := rfl
@[simp] theorem State.setImeDelay_fault (v) : (s.setImeDelay v).fault = s.fault := rfl
@[simp] theorem State.setImeDelay_cycles (v) : (s.setImeDelay v).cycles = s.cycles := rfl
@[simp] theorem State.setImeDelay_ime (v) : (s.setImeDelay v).ime = s.ime := rfl
@[simp] theorem State.setImeDelay_imeDelay (v) : (s.setImeDelay v).imeDelay = v := rfl
@[simp] theorem State.setImeDelay_raw (v) : (s.setImeDelay v).raw = s.raw := rfl
@[simp] theorem State.setImeDelay_bootActive (v) : (s.setImeDelay v).bootActive = s.bootActive := rfl
@[simp] theorem State.setImeDelay_cartBank (v) : (s.setImeDelay v).cartBank = s.cartBank := rfl
@[simp] theorem State.setImeDelay_params (v) : (s.setImeDelay v).params = s.params := rfl
@[simp] theorem State.setImeDelay_rom (v) : (s.setImeDelay v).rom = s.rom := rfl
@[simp] theorem State.setImeDelay_boot (v) : (s.setImeDelay v).boot = s.boot := rfl
@[simp] theorem State.setImeDelay_lastSample (v) : (s.setImeDelay v).lastSample = s.lastSample := rfl
@[simp] theorem State.setImeDelay_pendingOverflow (v) : (s.setImeDelay v).pendingOverflow = s.pendingOverflow := rfl
@[simp] theorem State.setImeDelay_lcdMode (v) : (s.setImeDelay v).lcdMode = s.lcdMode := rfl
@[simp] theorem State.setImeDelay_lcdAcc (v) : (s.setImeDelay v).lcdAcc = s.lcdAcc := rfl
@[simp] theorem State.setImeDelay_back (v) : (s.setImeDelay v).back = s.back := rfl
@[simp] theorem State.setImeDelay_frame (v) : (s.setImeDelay v).frame = s.frame := rfl
@[simp] theorem State.setImeDelay_frameReady (v) : (s.setImeDelay v).frameReady = s.frameReady := rfl
@[simp] theorem State.setImeDelay_setImeDelay (v w) : (s.setImeDelay v).setImeDelay w = s.setImeDelay w := rfl
@[simp] theorem State.setImeDelay_self : s.setImeDelay s.imeDelay = s := rfl

/-! ### `setRaw` -/

@[simp] theorem State.setRaw_a (v) : (s.setRaw v).a = s.a := rfl
@[simp] theorem State.setRaw_b (v) : (s.setRaw v).b = s.b := rfl
@[simp] theorem State.setRaw_c (v) : (s.setRaw v).c = s.c := rfl
@[simp] theorem State.setRaw_d (v) : (s.setRaw v).d = s.d := rfl
@[simp] theorem State.setRaw_e (v) : (s.setRaw v).e = s.e := rfl
@[simp] theorem State.setRaw_h (v) : (s.setRaw v).h = s.h := rfl
@[simp] theorem State.setRaw_l (v) : (s.setRaw v).l = s.l := rfl
@[simp] theorem State.setRaw_flags (v) : (s.setRaw v).flags = s.flags := rfl
@[simp] theorem State.setRaw_sp (v) : (s.setRaw v).sp = s.sp := rfl
@[simp] theorem State.setRaw_pc (v) : (s.setRaw v).pc = s.pc := rfl
@[simp] theorem State.setRaw_halted (v) : (s.setRaw v).halted = s.halted := rfl
@[simp] theorem State.setRaw_stopped (v) : (s.setRaw v).stopped = s.stopped := rfl
@[simp] theorem State.setRaw_fault (v) : (s.setRaw v).fault = s.fault := rfl
@[simp] theorem State.setRaw_cycles (v) : (s.setRaw v).cycles = s.cycles := rfl
@[simp] theorem State.setRaw_ime (v) : (s.setRaw v).ime = s.ime := rfl
@[simp] theorem State.setRaw_imeDelay (v) : (s.setRaw v).imeDelay = s.imeDelay := rfl
@[simp] theorem State.setRaw_raw (v) : (s.setRaw v).raw = v := rfl
@[simp] theorem State.setRaw_bootActive (v) : (s.setRaw v).bootActive = s.bootActive := rfl
@[simp] theorem State.setRaw_cartBank (v) : (s.setRaw v).cartBank = s.cartBank := rfl
@[simp] theorem State.setRaw_params (v) : (s.setRaw v).params = s.params := rfl
@[simp] theorem State.setRaw_rom (v) : (s.setRaw v).rom = s.rom := rfl
@[simp] theorem State.setRaw_boot (v) : (s.setRaw v).boot = s.boot := rfl
@[simp] theorem State.setRaw_lastSample (v) : (s.setRaw v).lastSample = s.lastSample := rfl
@[simp] theorem State.setRaw_pendingOverflow (v) : (s.setRaw v).pendingOverflow = s.pendingOverflow := rfl
@[simp] theorem State.setRaw_lcdMode (v) : (s.setRaw v).lcdMode = s.lcdMode := rfl
@[simp] theorem State.setRaw_lcdAcc (v) : (s.setRaw v).lcdAcc = s.lcdAcc := rfl
@[simp] theorem State.setRaw_back (v) : (s.setRaw v).back = s.back := rfl
@[simp] theorem State.setRaw_frame (v) : (s.setRaw v).frame = s.frame := rfl
@[simp] theorem State.setRaw_frameReady (v) : (s.setRaw v).frameReady = s.frameReady := rfl
@[simp] theorem State.setRaw_setRaw (v w) : (s.setRaw v).setRaw w = s.setRaw w := rfl
@[simp] theorem State.setRaw_self : s.setRaw s.raw = s := rfl

/-! ### `setBootActive` -/

@[simp] theorem State.setBootActive_a (v) : (s.setBootActive v).a = s.a := rfl
@[simp] theorem State.setBootActive_b (v) : (s.setBootActive v).b = s.b := rfl
@[simp] theorem State.setBootActive_c (v) : (s.setBootActive v).c = s.c := rfl
@[simp] theorem State.setBootActive_d (v) : (s.setBootActive v).d = s.d := rfl
@[simp] theorem State.setBootActive_e (v) : (s.setBootActive v).e = s.e := rfl
@[simp] theorem State.setBootActive_h (v) : (s.setBootActive v).h = s.h := rfl
@[simp] theorem State.setBootActive_l (v) : (s.setBootActive v).l = s.l := rfl
@[simp] theorem State.setBootActive_flags (v) : (s.setBootActive v).flags = s.flags := rfl
@[simp] theorem State.setBootActive_sp (v) : (s.setBootActive v).sp = s.sp := rfl
@[simp] theorem State.setBootActive_pc (v) : (s.setBootActive v).pc = s.pc := rfl
@[simp] theorem State.setBootActive_halted (v) : (s.setBootActive v).halted = s.halted := rfl
@[simp] theorem State.setBootActive_stopped (v) : (s.setBootActive v).stopped = s.stopped := rfl
@[simp] theorem State.setBootActive_fault (v) : (s.setBootActive v).fault = s.fault := rfl
@[simp] theorem State.setBootActive_cycles (v) : (s.setBootActive v).cycles = s.cycles := rfl
@[simp] theorem State.setBootActive_ime (v) : (s.setBootActive v).ime = s.ime := rfl
@[simp] theorem State.setBootActive_imeDelay (v) : (s.setBootActive v).imeDelay = s.imeDelay := rfl
@[simp] theorem State.setBootActive_raw (v) : (s.setBootActive v).raw = s.raw := rfl
@[simp] theorem State.setBootActive_bootActive (v) : (s.setBootActive v).bootActive = v := rfl
@[simp] theorem State.setBootActive_cartBank (v) : (s.setBootActive v).cartBank = s.cartBank := rfl
@[simp] theorem State.setBootActive_params (v) : (s.setBootActive v).params = s.params := rfl
@[simp] theorem State.setBootActive_rom (v) : (s.setBootActive v).rom = s.rom := rfl
@[simp] theorem State.setBootActive_boot (v) : (s.setBootActive v).boot = s.boot := rfl
@[simp] theorem State.setBootActive_lastSample (v) : (s.setBootActive v).lastSample = s.lastSample := rfl
@[simp] theorem State.setBootActive_pendingOverflow (v) : (s.setBootActive v).pendingOverflow = s.pendingOverflow := rfl
@[simp] theorem State.setBootActive_lcdMode (v) : (s.setBootActive v).lcdMode = s.lcdMode := rfl
@[simp] theorem State.setBootActive_lcdAcc (v) : (s.setBootActive v).lcdAcc = s.lcdAcc := rfl
@[simp] theorem State.setBootActive_back (v) : (s.setBootActive v).back = s.back := rfl
@[simp] theorem State.setBootActive_frame (v) : (s.setBootActive v).frame = s.frame := rfl
@[simp] theorem State.setBootActive_frameReady (v) : (s.setBootActive v).frameReady = s.frameReady := rfl
@[simp] theorem State.setBootActive_setBootActive (v w) : (s.setBootActive v).setBootActive w = s.setBootActive w := rfl
@[simp] theorem State.setBootActive_self : s.setBootActive s.bootActive = s := rfl

/-! ### `setCartBank` -/

@[simp] theorem State.setCartBank_a (v) : (s.setCartBank v).a = s.a := rfl
@[simp] theorem State.setCartBank_b (v) : (s.setCartBank v).b = s.b := rfl
@[simp] theorem State.setCartBank_c (v) : (s.setCartBank v).c = s.c := rfl
@[simp] theorem State.setCartBank_d (v) : (s.setCartBank v).d = s.d := rfl
@[simp] theorem State.setCartBank_e (v) : (s.setCartBank v).e = s.e := rfl
@[simp] theorem State.setCartBank_h (v) : (s.setCartBank v).h = s.h := rfl
@[simp] theorem State.setCartBank_l (v) : (s.setCartBank v).l = s.l := rfl
@[simp] theorem State.setCartBank_flags (v) : (s.setCartBank v).flags = s.flags := rfl
@[simp] theorem State.setCartBank_sp (v) : (s.setCartBank v).sp = s.sp := rfl
@[simp] theorem State.setCartBank_pc (v) : (s.setCartBank v).pc = s.pc := rfl
@[simp] theorem State.setCartBank_halted (v) : (s.setCartBank v).halted = s.halted := rfl
@[simp] theorem State.setCartBank_stopped (v) : (s.setCartBank v).stopped = s.stopped := rfl
@[simp] theorem State.setCartBank_fault (v) : (s.setCartBank v).fault = s.fault := rfl
@[simp] theorem State.setCartBank_cycles (v) : (s.setCartBank v).cycles = s.cycles := rfl
@[simp] theorem State.setCartBank_ime (v) : (s.setCartBank v).ime = s.ime := rfl
@[simp] theorem State.setCartBank_imeDelay (v) : (s.setCartBank v).imeDelay = s.imeDelay := rfl
@[simp] theorem State.setCartBank_raw (v) : (s.setCartBank v).raw = s.raw := rfl
@[simp] theorem State.setCartBank_bootActive (v) : (s.setCartBank v).bootActive = s.bootActive := rfl
@[simp] theorem State.setCartBank_cartBank (v) : (s.setCartBank v).cartBank = v := rfl
@[simp] theorem State.setCartBank_params (v) : (s.setCartBank v).params = s.params := rfl
@[simp] theorem State.setCartBank_rom (v) : (s.setCartBank v).rom = s.rom := rfl
@[simp] theorem State.setCartBank_boot (v) : (s.setCartBank v).boot = s.boot := rfl
@[simp] theorem State.setCartBank_lastSample (v) : (s.setCartBank v).lastSample = s.lastSample := rfl
@[simp] theorem State.setCartBank_pendingOverflow (v) : (s.setCartBank v).pendingOverflow = s.pendingOverflow := rfl
@[simp] theorem State.setCartBank_lcdMode (v) : (s.setCartBank v).lcdMode = s.lcdMode := rfl
@[simp] theorem State.setCartBank_lcdAcc (v) : (s.setCartBank v).lcdAcc = s.lcdAcc := rfl
@[simp] theorem State.setCartBank_back (v) : (s.setCartBank v).back = s.back := rfl
@[simp] theorem State.setCartBank_frame (v) : (s.setCartBank v).frame = s.frame := rfl
@[simp] theorem State.setCartBank_frameReady (v) : (s.setCartBank v).frameReady = s.frameReady := rfl
@[simp] theorem State.setCartBank_setCartBank (v w) : (s.setCartBank v).setCartBank w = s.setCartBank w := rfl
@[simp] theorem State.setCartBank_self : s.setCartBank s.cartBank = s := rfl

/-! ### `setParams` -/

@[simp] theorem State.setParams_a (v) : (s.setParams v).a = s.a := rfl
@[simp] theorem State.setParams_b (v) : (s.setParams v).b = s.b := rfl
@[simp] theorem State.setParams_c (v) : (s.setParams v).c = s.c := rfl
@[simp] theorem State.setParams_d (v) : (s.setParams v).d = s.d := rfl
@[simp] theorem State.setParams_e (v) : (s.setParams v).e = s.e := rfl
@[simp] theorem State.setParams_h (v) : (s.setParams v).h = s.h := rfl
@[simp] theorem State.setParams_l (v) : (s.setParams v).l = s.l := rfl
@[simp] theorem State.setParams_flags (v) : (s.setParams v).flags = s.flags := rfl
@[simp] theorem State.setParams_sp (v) : (s.setParams v).sp = s.sp := rfl
@[simp] theorem State.setParams_pc (v) : (s.setParams v).pc = s.pc := rfl
@[simp] theorem State.setParams_halted (v) : (s.setParams v).halted = s.halted := rfl
@[simp] theorem State.setParams_stopped (v) : (s.setParams v).stopped = s.stopped := rfl
@[simp] theorem State.setParams_fault (v) : (s.setParams v).fault = s.fault := rfl
@[simp] theorem State.setParams_cycles (v) : (s.setParams v).cycles = s.cycles := rfl
@[simp] theorem State.setParams_ime (v) : (s.setParams v).ime = s.ime := rfl
@[simp] theorem State.setParams_imeDelay (v) : (s.setParams v).imeDelay = s.imeDelay := rfl
@[simp] theorem State.setParams_raw (v) : (s.setParams v).raw = s.raw := rfl
@[simp] theorem State.setParams_bootActive (v) : (s.setParams v).bootActive = s.bootActive := rfl
@[simp] theorem State.setParams_cartBank (v) : (s.setParams v).cartBank = s.cartBank := rfl
@[simp] theorem State.setParams_params (v) : (s.setParams v).params = v := rfl
@[simp] theorem State.setParams_rom (v) : (s.setParams v).rom = s.rom := rfl
@[simp] theorem State.setParams_boot (v) : (s.setParams v).boot = s.boot := rfl
@[simp] theorem State.setParams_lastSample (v) : (s.setParams v).lastSample = s.lastSample := rfl
@[simp] theorem State.setParams_pendingOverflow (v) : (s.setParams v).pendingOverflow = s.pendingOverflow := rfl
@[simp] theorem State.setParams_lcdMode (v) : (s.setParams v).lcdMode = s.lcdMode := rfl
@[simp] theorem State.setParams_lcdAcc (v) : (s.setParams v).lcdAcc = s.lcdAcc := rfl
@[simp] theorem State.setParams_back (v) : (s.setParams v).back = s.back := rfl
@[simp] theorem State.setParams_frame (v) : (s.setParams v).frame = s.frame := rfl
@[simp] theorem State.setParams_frameReady (v) : (s.setParams v).frameReady = s.frameReady := rfl
@[simp] theorem State.setParams_setParams (v w) : (s.setParams v).setParams w = s.setParams w := rfl
@[simp] theorem State.setParams_self : s.setParams s.params = s := rfl

/-! ### `setRom` -/

@[simp] theorem State.setRom_a (v) : (s.setRom v).a = s.a := rfl
@[simp] theorem State.setRom_b (v) : (s.setRom v).b = s.b := rfl
@[simp] theorem State.setRom_c (v) : (s.setRom v).c = s.c := rfl
@[simp] theorem State.setRom_d (v) : (s.setRom v).d = s.d := rfl
@[simp] theorem State.setRom_e (v) : (s.setRom v).e = s.e := rfl
@[simp] theorem State.setRom_h (v) : (s.setRom v).h = s.h := rfl
@[simp] theorem State.setRom_l (v) : (s.setRom v).l = s.l := rfl
@[simp] theorem State.setRom_flags (v) : (s.setRom v).flags = s.flags := rfl
@[simp] theorem State.setRom_sp (v) : (s.setRom v).sp = s.sp := rfl
@[simp] theorem State.setRom_pc (v) : (s.setRom v).pc = s.pc := rfl
@[simp] theorem State.setRom_halted (v) : (s.setRom v).halted = s.halted := rfl
@[simp] theorem State.setRom_stopped (v) : (s.setRom v).stopped = s.stopped := rfl
@[simp] theorem State.setRom_fault (v) : (s.setRom v).fault = s.fault := rfl
@[simp] theorem State.setRom_cycles (v) : (s.setRom v).cycles = s.cycles := rfl
@[simp] theorem State.setRom_ime (v) : (s.setRom v).ime = s.ime := rfl
@[simp] theorem State.setRom_imeDelay (v) : (s.setRom v).imeDelay = s.imeDelay := rfl
@[simp] theorem State.setRom_raw (v) : (s.setRom v).raw = s.raw := rfl
@[simp] theorem State.setRom_bootActive (v) : (s.setRom v).bootActive = s.bootActive := rfl
@[simp] theorem State.setRom_cartBank (v) : (s.setRom v).cartBank = s.cartBank := rfl
@[simp] theorem State.setRom_params (v) : (s.setRom v).params = s.params := rfl
@[simp] theorem State.setRom_rom (v) : (s.setRom v).rom = v := rfl
@[simp] theorem State.setRom_boot (v) : (s.setRom v).boot = s.boot := rfl
@[simp] theorem State.setRom_lastSample (v) : (s.setRom v).lastSample = s.lastSample := rfl
@[simp] theorem State.setRom_pendingOverflow (v) : (s.setRom v).pendingOverflow = s.pendingOverflow := rfl
@[simp] theorem State.setRom_lcdMode (v) : (s.setRom v).lcdMode = s.lcdMode := rfl
@[simp] theorem State.setRom_lcdAcc (v) : (s.setRom v).lcdAcc = s.lcdAcc := rfl
@[simp] theorem State.setRom_back (v) : (s.setRom v).back = s.back := rfl
@[simp] theorem State.setRom_frame (v) : (s.setRom v).frame = s.frame := rfl
@[simp] theorem State.setRom_frameReady (v) : (s.setRom v).frameReady = s.frameReady := rfl
@[simp] theorem State.setRom_setRom (v w) : (s.setRom v).setRom w = s.setRom w := rfl
@[simp] theorem State.setRom_self : s.setRom s.rom = s := rfl

/-! ### `setBoot` -/

@[simp] theorem State.setBoot_a (v) : (s.setBoot v).a = s.a := rfl
@[simp] theorem State.setBoot_b (v) : (s.setBoot v).b = s.b := rfl
@[simp] theorem State.setBoot_c (v) : (s.setBoot v).c = s.c := rfl
@[simp] theorem State.setBoot_d (v) : (s.setBoot v).d = s.d := rfl
@[simp] theorem State.setBoot_e (v) : (s.setBoot v).e = s.e := rfl
@[simp] theorem State.setBoot_h (v) : (s.setBoot v).h = s.h := rfl
@[simp] theorem State.setBoot_l (v) : (s.setBoot v).l = s.l := rfl
@[simp] theorem State.setBoot_flags (v) : (s.setBoot v).flags = s.flags := rfl
@[simp] theorem State.setBoot_sp (v) : (s.setBoot v).sp = s.sp := rfl
@[simp] theorem State.setBoot_pc (v) : (s.setBoot v).pc = s.pc := rfl
@[simp] theorem State.setBoot_halted (v) : (s.setBoot v).halted = s.halted := rfl
@[simp] theorem State.setBoot_stopped (v) : (s.setBoot v).stopped = s.stopped := rfl
@[simp] theorem State.setBoot_fault (v) : (s.setBoot v).fault = s.fault := rfl
@[simp] theorem State.setBoot_cycles (v) : (s.setBoot v).cycles = s.cycles := rfl
@[simp] theorem State.setBoot_ime (v) : (s.setBoot v).ime = s.ime := rfl
@[simp] theorem State.setBoot_imeDelay (v) : (s.setBoot v).imeDelay = s.imeDelay := rfl
@[simp] theorem State.setBoot_raw (v) : (s.setBoot v).raw = s.raw := rfl
@[simp] theorem State.setBoot_bootActive (v) : (s.setBoot v).bootActive = s.bootActive := rfl
@[simp] theorem State.setBoot_cartBank (v) : (s.setBoot v).cartBank = s.cartBank := rfl
@[simp] theorem State.setBoot_params (v) : (s.setBoot v).params = s.params := rfl
@[simp] theorem State.setBoot_rom (v) : (s.setBoot v).rom = s.rom := rfl
@[simp] theorem State.setBoot_boot (v) : (s.setBoot v).boot = v := rfl
@[simp] theorem State.setBoot_lastSample (v) : (s.setBoot v).lastSample = s.lastSample := rfl
@[simp] theorem State.setBoot_pendingOverflow (v) : (s.setBoot v).pendingOverflow = s.pendingOverflow := rfl
@[simp] theorem State.setBoot_lcdMode (v) : (s.setBoot v).lcdMode = s.lcdMode := rfl
@[simp] theorem State.setBoot_lcdAcc (v) : (s.setBoot v).lcdAcc = s.lcdAcc := rfl
@[simp] theorem State.setBoot_back (v) : (s.setBoot v).back = s.back := rfl
@[simp] theorem State.setBoot_frame (v) : (s.setBoot v).frame = s.frame := rfl
@[simp] theorem State.setBoot_frameReady (v) : (s.setBoot v).frameReady = s.frameReady := rfl
@[simp] theorem State.setBoot_setBoot (v w) : (s.setBoot v).setBoot w = s.setBoot w := rfl
@[simp] theorem State.setBoot_self : s.setBoot s.boot = s := rfl

/-! ### `setLastSample` -/

@[simp] theorem State.setLastSample_a (v) : (s.setLastSample v).a = s.a := rfl
@[simp] theorem State.setLastSample_b (v) : (s.setLastSample v).b = s.b := rfl
@[simp] theorem State.setLastSample_c (v) : (s.setLastSample v).c = s.c := rfl
@[simp] theorem State.setLastSample_d (v) : (s.setLastSample v).d = s.d := rfl
@[simp] theorem State.setLastSample_e (v) : (s.setLastSample v).e = s.e := rfl
@[simp] theorem State.setLastSample_h (v) : (s.setLastSample v).h = s.h := rfl
@[simp] theorem State.setLastSample_l (v) : (s.setLastSample v).l = s.l := rfl
@[simp] theorem State.setLastSample_flags (v) : (s.setLastSample v).flags = s.flags := rfl
@[simp] theorem State.setLastSample_sp (v) : (s.setLastSample v).sp = s.sp := rfl
@[simp] theorem State.setLastSample_pc (v) : (s.setLastSample v).pc = s.pc := rfl
@[simp] theorem State.setLastSample_halted (v) : (s.setLastSample v).halted = s.halted := rfl
@[simp] theorem State.setLastSample_stopped (v) : (s.setLastSample v).stopped = s.stopped := rfl
@[simp] theorem State.setLastSample_fault (v) : (s.setLastSample v).fault = s.fault := rfl
@[simp] theorem State.setLastSample_cycles (v) : (s.setLastSample v).cycles = s.cycles := rfl
@[simp] theorem State.setLastSample_ime (v) : (s.setLastSample v).ime = s.ime := rfl
@[simp] theorem State.setLastSample_imeDelay (v) : (s.setLastSample v).imeDelay = s.imeDelay := rfl
@[simp] theorem State.setLastSample_raw (v) : (s.setLastSample v).raw = s.raw := rfl
@[simp] theorem State.setLastSample_bootActive (v) : (s.setLastSample v).bootActive = s.bootActive := rfl
@[simp] theorem State.setLastSample_cartBank (v) : (s.setLastSample v).cartBank = s.cartBank := rfl
@[simp] theorem State.setLastSample_params (v) : (s.setLastSample v).params = s.params := rfl
@[simp] theorem State.setLastSample_rom (v) : (s.setLastSample v).rom = s.rom := rfl
@[simp] theorem State.setLastSample_boot (v) : (s.setLastSample v).boot = s.boot := rfl
@[simp] theorem State.setLastSample_lastSample (v) : (s.setLastSample v).lastSample = v := rfl
@[simp] theorem State.setLastSample_pendingOverflow (v) : (s.setLastSample v).pendingOverflow = s.pendingOverflow := rfl
@[simp] theorem State.setLastSample_lcdMode (v) : (s.setLastSample v).lcdMode = s.lcdMode := rfl
@[simp] theorem State.setLastSample_lcdAcc (v) : (s.setLastSample v).lcdAcc = s.lcdAcc := rfl
@[simp] theorem State.setLastSample_back (v) : (s.setLastSample v).back = s.back := rfl
@[simp] theorem State.setLastSample_frame (v) : (s.setLastSample v).frame = s.frame := rfl
@[simp] theorem State.setLastSample_frameReady (v) : (s.setLastSample v).frameReady = s.frameReady := rfl
@[simp] theorem State.setLastSample_setLastSample (v w) : (s.setLastSample v).setLastSample w = s.setLastSample w := rfl
@[simp] theorem State.setLastSample_self : s.setLastSample s.lastSample = s := rfl

/-! ### `setPendingOverflow` -/

@[simp] theorem State.setPendingOverflow_a (v) : (s.setPendingOverflow v).a = s.a := rfl
@[simp] theorem State.setPendingOverflow_b (v) : (s.setPendingOverflow v).b = s.b := rfl
@[simp] theorem State.setPendingOverflow_c (v) : (s.setPendingOverflow v).c = s.c := rfl
@[simp] theorem State.setPendingOverflow_d (v) : (s.setPendingOverflow v).d = s.d := rfl
@[simp] theorem State.setPendingOverflow_e (v) : (s.setPendingOverflow v).e = s.e := rfl
@[simp] theorem State.setPendingOverflow_h (v) : (s.setPendingOverflow v).h = s.h := rfl
@[simp] theorem State.setPendingOverflow_l (v) : (s.setPendingOverflow v).l = s.l := rfl
@[simp] theorem State.setPendingOverflow_flags (v) : (s.setPendingOverflow v).flags = s.flags := rfl
@[simp] theorem State.setPendingOverflow_sp (v) : (s.setPendingOverflow v).sp = s.sp := rfl
@[simp] theorem State.setPendingOverflow_pc (v) : (s.setPendingOverflow v).pc = s.pc := rfl
@[simp] theorem State.setPendingOverflow_halted (v) : (s.setPendingOverflow v).halted = s.halted := rfl
@[simp] theorem State.setPendingOverflow_stopped (v) : (s.setPendingOverflow v).stopped = s.stopped := rfl
@[simp] theorem State.setPendingOverflow_fault (v) : (s.setPendingOverflow v).fault = s.fault := rfl
@[simp] theorem State.setPendingOverflow_cycles (v) : (s.setPendingOverflow v).cycles = s.cycles := rfl
@[simp] theorem State.setPendingOverflow_ime (v) : (s.setPendingOverflow v).ime = s.ime := rfl
@[simp] theorem State.setPendingOverflow_imeDelay (v) : (s.setPendingOverflow v).imeDelay = s.imeDelay := rfl
@[simp] theorem State.setPendingOverflow_raw (v) : (s.setPendingOverflow v).raw = s.raw := rfl
@[simp] theorem State.setPendingOverflow_bootActive (v) : (s.setPendingOverflow v).bootActive = s.bootActive := rfl
@[simp] theorem State.setPendingOverflow_cartBank (v) : (s.setPendingOverflow v).cartBank = s.cartBank := rfl
@[simp] theorem State.setPendingOverflow_params (v) : (s.setPendingOverflow v).params = s.params := rfl
@[simp] theorem State.setPendingOverflow_rom (v) : (s.setPendingOverflow v).rom = s.rom := rfl
@[simp] theorem State.setPendingOverflow_boot (v) : (s.setPendingOverflow v).boot = s.boot := rfl
@[simp] theorem State.setPendingOverflow_lastSample (v) : (s.setPendingOverflow v).lastSample = s.lastSample := rfl
@[simp] theorem State.setPendingOverflow_pendingOverflow (v) : (s.setPendingOverflow v).pendingOverflow = v := rfl
@[simp] theorem State.setPendingOverflow_lcdMode (v) : (s.setPendingOverflow v).lcdMode = s.lcdMode := rfl
@[simp] theorem State.setPendingOverflow_lcdAcc (v) : (s.setPendingOverflow v).lcdAcc = s.lcdAcc := rfl
@[simp] theorem State.setPendingOverflow_back (v) : (s.setPendingOverflow v).back = s.back := rfl
@[simp] theorem State.setPendingOverflow_frame (v) : (s.setPendingOverflow v).frame = s.frame := rfl
@[simp] theorem State.setPendingOverflow_frameReady (v) : (s.setPendingOverflow v).frameReady = s.frameReady := rfl
@[simp] theorem State.setPendingOverflow_setPendingOverflow (v w) : (s.setPendingOverflow v).setPendingOverflow w = s.setPendingOverflow w := rfl
@[simp] theorem State.setPendingOverflow_self : s.setPendingOverflow s.pendingOverflow = s := rfl

/-! ### `setLcdMode` -/

@[simp] theorem State.setLcdMode_a (v) : (s.setLcdMode v).a = s.a := rfl
@[simp] theorem State.setLcdMode_b (v) : (s.setLcdMode v).b = s.b := rfl
@[simp] theorem State.setLcdMode_c (v) : (s.setLcdMode v).c = s.c := rfl
@[simp] theorem State.setLcdMode_d (v) : (s.setLcdMode v).d = s.d := rfl
@[simp] theorem State.setLcdMode_e (v) : (s.setLcdMode v).e = s.e := rfl
@[simp] theorem State.setLcdMode_h (v) : (s.setLcdMode v).h = s.h := rfl
@[simp] theorem State.setLcdMode_l (v) : (s.setLcdMode v).l = s.l := rfl
@[simp] theorem State.setLcdMode_flags (v) : (s.setLcdMode v).flags = s.flags := rfl
@[simp] theorem State.setLcdMode_sp (v) : (s.setLcdMode v).sp = s.sp := rfl
@[simp] theorem State.setLcdMode_pc (v) : (s.setLcdMode v).pc = s.pc := rfl
@[simp] theorem State.setLcdMode_halted (v) : (s.setLcdMode v).halted = s.halted := rfl
@[simp] theorem State.setLcdMode_stopped (v) : (s.setLcdMode v).stopped = s.stopped := rfl
@[simp] theorem State.setLcdMode_fault (v) : (s.setLcdMode v).fault = s.fault := rfl
@[simp] theorem State.setLcdMode_cycles (v) : (s.setLcdMode v).cycles = s.cycles := rfl
@[simp] theorem State.setLcdMode_ime (v) : (s.setLcdMode v).ime = s.ime := rfl
@[simp] theorem State.setLcdMode_imeDelay (v) : (s.setLcdMode v).imeDelay = s.imeDelay := rfl
@[simp] theorem State.setLcdMode_raw (v) : (s.setLcdMode v).raw = s.raw := rfl
@[simp] theorem State.setLcdMode_bootActive (v) : (s.setLcdMode v).bootActive = s.bootActive := rfl
@[simp] theorem State.setLcdMode_cartBank (v) : (s.setLcdMode v).cartBank = s.cartBank := rfl
@[simp] theorem State.setLcdMode_params (v) : (s.setLcdMode v).params = s.params := rfl
@[simp] theorem State.setLcdMode_rom (v) : (s.setLcdMode v).rom = s.rom := rfl
@[simp] theorem State.setLcdMode_boot (v) : (s.setLcdMode v).boot = s.boot := rfl
@[simp] theorem State.setLcdMode_lastSample (v) : (s.setLcdMode v).lastSample = s.lastSample := rfl
@[simp] theorem State.setLcdMode_pendingOverflow (v) : (s.setLcdMode v).pendingOverflow = s.pendingOverflow := rfl
@[simp] theorem State.setLcdMode_lcdMode (v) : (s.setLcdMode v).lcdMode = v := rfl
@[simp] theorem State.setLcdMode_lcdAcc (v) : (s.setLcdMode v).lcdAcc = s.lcdAcc := rfl
@[simp] theorem State.setLcdMode_back (v) : (s.setLcdMode v).back = s.back := rfl
@[simp] theorem State.setLcdMode_frame (v) : (s.setLcdMode v).frame = s.frame := rfl
@[simp] theorem State.setLcdMode_frameReady (v) : (s.setLcdMode v).frameReady = s.frameReady := rfl
@[simp] theorem State.setLcdMode_setLcdMode (v w) : (s.setLcdMode v).setLcdMode w = s.setLcdMode w := rfl
@[simp] theorem State.setLcdMode_self : s.setLcdMode s.lcdMode = s := rfl

/-! ### `setLcdAcc` -/

@[simp] theorem State.setLcdAcc_a (v) : (s.setLcdAcc v).a = s.a := rfl
@[simp] theorem State.setLcdAcc_b (v) : (s.setLcdAcc v).b = s.b := rfl
@[simp] theorem State.setLcdAcc_c (v) : (s.setLcdAcc v).c = s.c := rfl
@[simp] theorem State.setLcdAcc_d (v) : (s.setLcdAcc v).d = s.d := rfl
@[simp] theorem State.setLcdAcc_e (v) : (s.setLcdAcc v).e = s.e := rfl
@[simp] theorem State.setLcdAcc_h (v) : (s.setLcdAcc v).h = s.h := rfl
@[simp] theorem State.setLcdAcc_l (v) : (s.setLcdAcc v).l = s.l := rfl
@[simp] theorem State.setLcdAcc_flags (v) : (s.setLcdAcc v).flags = s.flags := rfl
@[simp] theorem State.setLcdAcc_sp (v) : (s.setLcdAcc v).sp = s.sp := rfl
@[simp] theorem State.setLcdAcc_pc (v) : (s.setLcdAcc v).pc = s.pc := rfl
@[simp] theorem State.setLcdAcc_halted (v) : (s.setLcdAcc v).halted = s.halted := rfl
@[simp] theorem State.setLcdAcc_stopped (v) : (s.setLcdAcc v).stopped = s.stopped := rfl
@[simp] theorem State.setLcdAcc_fault (v) : (s.setLcdAcc v).fault = s.fault := rfl
@[simp] theorem State.setLcdAcc_cycles (v) : (s.setLcdAcc v).cycles = s.cycles := rfl
@[simp] theorem State.setLcdAcc_ime (v) : (s.setLcdAcc v).ime = s.ime := rfl
@[simp] theorem State.setLcdAcc_imeDelay (v) : (s.setLcdAcc v).imeDelay = s.imeDelay := rfl
@[simp] theorem State.setLcdAcc_raw (v) : (s.setLcdAcc v).raw = s.raw := rfl
@[simp] theorem State.setLcdAcc_bootActive (v) : (s.setLcdAcc v).bootActive = s.bootActive := rfl
@[simp] theorem State.setLcdAcc_cartBank (v) : (s.setLcdAcc v).cartBank = s.cartBank := rfl
@[simp] theorem State.setLcdAcc_params (v) : (s.setLcdAcc v).params = s.params := rfl
@[simp] theorem State.setLcdAcc_rom (v) : (s.setLcdAcc v).rom = s.rom := rfl
@[simp] theorem State.setLcdAcc_boot (v) : (s.setLcdAcc v).boot = s.boot := rfl
@[simp] theorem State.setLcdAcc_lastSample (v) : (s.setLcdAcc v).lastSample = s.lastSample := rfl
@[simp] theorem State.setLcdAcc_pendingOverflow (v) : (s.setLcdAcc v).pendingOverflow = s.pendingOverflow := rfl
@[simp] theorem State.setLcdAcc_lcdMode (v) : (s.setLcdAcc v).lcdMode = s.lcdMode := rfl
@[simp] theorem State.setLcdAcc_lcdAcc (v) : (s.setLcdAcc v).lcdAcc = v := rfl
@[simp] theorem State.setLcdAcc_back (v) : (s.setLcdAcc v).back = s.back := rfl
@[simp] theorem State.setLcdAcc_frame (v) : (s.setLcdAcc v).frame = s.frame := rfl
@[simp] theorem State.setLcdAcc_frameReady (v) : (s.setLcdAcc v).frameReady = s.frameReady := rfl
@[simp] theorem State.setLcdAcc_setLcdAcc (v w) : (s.setLcdAcc v).setLcdAcc w = s.setLcdAcc w := rfl
@[simp] theorem State.setLcdAcc_self : s.setLcdAcc s.lcdAcc = s := rfl

/-! ### `setBack` -/

@[simp] theorem State.setBack_a (v) : (s.setBack v).a = s.a := rfl
@[simp] theorem State.setBack_b (v) : (s.setBack v).b = s.b := rfl
@[simp] theorem State.setBack_c (v) : (s.setBack v).c = s.c := rfl
@[simp] theorem State.setBack_d (v) : (s.setBack v).d = s.d := rfl
@[simp] theorem State.setBack_e (v) : (s.setBack v).e = s.e := rfl
@[simp] theorem State.setBack_h (v) : (s.setBack v).h = s.h := rfl
@[simp] theorem State.setBack_l (v) : (s.setBack v).l = s.l := rfl
@[simp] theorem State.setBack_flags (v) : (s.setBack v).flags = s.flags := rfl
@[simp] theorem State.setBack_sp (v) : (s.setBack v).sp = s.sp := rfl
@[simp] theorem State.setBack_pc (v) : (s.setBack v).pc = s.pc := rfl
@[simp] theorem State.setBack_halted (v) : (s.setBack v).halted = s.halted := rfl
@[simp] theorem State.setBack_stopped (v) : (s.setBack v).stopped = s.stopped := rfl
@[simp] theorem State.setBack_fault (v) : (s.setBack v).fault = s.fault := rfl
@[simp] theorem State.setBack_cycles (v) : (s.setBack v).cycles = s.cycles := rfl
@[simp] theorem State.setBack_ime (v) : (s.setBack v).ime = s.ime := rfl
@[simp] theorem State.setBack_imeDelay (v) : (s.setBack v).imeDelay = s.imeDelay := rfl
@[simp] theorem State.setBack_raw (v) : (s.setBack v).raw = s.raw := rfl
@[simp] theorem State.setBack_bootActive (v) : (s.setBack v).bootActive = s.bootActive := rfl
@[simp] theorem State.setBack_cartBank (v) : (s.setBack v).cartBank = s.cartBank := rfl
@[simp] theorem State.setBack_params (v) : (s.setBack v).params = s.params := rfl
@[simp] theorem State.setBack_rom (v) : (s.setBack v).rom = s.rom := rfl
@[simp] theorem State.setBack_boot (v) : (s.setBack v).boot = s.boot := rfl
@[simp] theorem State.setBack_lastSample (v) : (s.setBack v).lastSample = s.lastSample := rfl
@[simp] theorem State.setBack_pendingOverflow (v) : (s.setBack v).pendingOverflow = s.pendingOverflow := rfl
@[simp] theorem State.setBack_lcdMode (v) : (s.setBack v).lcdMode = s.lcdMode := rfl
@[simp] theorem State.setBack_lcdAcc (v) : (s.setBack v).lcdAcc = s.lcdAcc := rfl
@[simp] theorem State.setBack_back (v) : (s.setBack v).back = v := rfl
@[simp] theorem State.setBack_frame (v) : (s.setBack v).frame = s.frame := rfl
@[simp] theorem State.setBack_frameReady (v) : (s.setBack v).frameReady = s.frameReady := rfl
@[simp] theorem State.setBack_setBack (v w) : (s.setBack v).setBack w = s.setBack w := rfl
@[simp] theorem State.setBack_self : s.setBack s.back = s := rfl

/-! ### `setFrame` -/

@[simp] theorem State.setFrame_a (v) : (s.setFrame v).a = s.a := rfl
@[simp] theorem State.setFrame_b (v) : (s.setFrame v).b = s.b := rfl
@[simp] theorem State.setFrame_c (v) : (s.setFrame v).c = s.c := rfl
@[simp] theorem State.setFrame_d (v) : (s.setFrame v).d = s.d := rfl
@[simp] theorem State.setFrame_e (v) : (s.setFrame v).e = s.e := rfl
@[simp] theorem State.setFrame_h (v) : (s.setFrame v).h = s.h := rfl
@[simp] theorem State.setFrame_l (v) : (s.setFrame v).l = s.l := rfl
@[simp] theorem State.setFrame_flags (v) : (s.setFrame v).flags = s.flags := rfl
@[simp] theorem State.setFrame_sp (v) : (s.setFrame v).sp = s.sp := rfl
@[simp] theorem State.setFrame_pc (v) : (s.setFrame v).pc = s.pc := rfl
@[simp] theorem State.setFrame_halted (v) : (s.setFrame v).halted = s.halted := rfl
@[simp] theorem State.setFrame_stopped (v) : (s.setFrame v).stopped = s.stopped := rfl
@[simp] theorem State.setFrame_fault (v) : (s.setFrame v).fault = s.fault := rfl
@[simp] theorem State.setFrame_cycles (v) : (s.setFrame v).cycles = s.cycles := rfl
@[simp] theorem State.setFrame_ime (v) : (s.setFrame v).ime = s.ime := rfl
@[simp] theorem State.setFrame_imeDelay (v) : (s.setFrame v).imeDelay = s.imeDelay := rfl
@[simp] theorem State.setFrame_raw (v) : (s.setFrame v).raw = s.raw := rfl
@[simp] theorem State.setFrame_bootActive (v) : (s.setFrame v).bootActive = s.bootActive := rfl
@[simp] theorem State.setFrame_cartBank (v) : (s.setFrame v).cartBank = s.cartBank := rfl
@[simp] theorem State.setFrame_params (v) : (s.setFrame v).params = s.params := rfl
@[simp] theorem State.setFrame_rom (v) : (s.setFrame v).rom = s.rom := rfl
@[simp] theorem State.setFrame_boot (v) : (s.setFrame v).boot = s.boot := rfl
@[simp] theorem State.setFrame_lastSample (v) : (s.setFrame v).lastSample = s.lastSample := rfl
@[simp] theorem State.setFrame_pendingOverflow (v) : (s.setFrame v).pendingOverflow = s.pendingOverflow := rfl
@[simp] theorem State.setFrame_lcdMode (v) : (s.setFrame v).lcdMode = s.lcdMode := rfl
@[simp] theorem State.setFrame_lcdAcc (v) : (s.setFrame v).lcdAcc = s.lcdAcc := rfl
@[simp] theorem State.setFrame_back (v) : (s.setFrame v).back = s.back := rfl
@[simp] theorem State.setFrame_frame (v) : (s.setFrame v).frame = v := rfl
@[simp] theorem State.setFrame_frameReady (v) : (s.setFrame v).frameReady = s.frameReady := rfl
@[simp] theorem State.setFrame_setFrame (v w) : (s.setFrame v).setFrame w = s.setFrame w := rfl
@[simp] theorem State.setFrame_self : s.setFrame s.frame = s := rfl

/-! ### `setFrameReady` -/

@[simp] theorem State.setFrameReady_a (v) : (s.setFrameReady v).a = s.a := rfl
@[simp] theorem State.setFrameReady_b (v) : (s.setFrameReady v).b = s.b := rfl
@[simp] theorem State.setFrameReady_c (v) : (s.setFrameReady v).c = s.c := rfl
@[simp] theorem State.setFrameReady_d (v) : (s.setFrameReady v).d = s.d := rfl
@[simp] theorem State.setFrameReady_e (v) : (s.setFrameReady v).e = s.e := rfl
@[simp] theorem State.setFrameReady_h (v) : (s.setFrameReady v).h = s.h := rfl
@[simp] theorem State.setFrameReady_l (v) : (s.setFrameReady v).l = s.l := rfl
@[simp] theorem State.setFrameReady_flags (v) : (s.setFrameReady v).flags = s.flags := rfl
@[simp] theorem State.setFrameReady_sp (v) : (s.setFrameReady v).sp = s.sp := rfl
@[simp] theorem State.setFrameReady_pc (v) : (s.setFrameReady v).pc = s.pc := rfl
@[simp] theorem State.setFrameReady_halted (v) : (s.setFrameReady v).halted = s.halted := rfl
@[simp] theorem State.setFrameReady_stopped (v) : (s.setFrameReady v).stopped = s.stopped := rfl
@[simp] theorem State.setFrameReady_fault (v) : (s.setFrameReady v).fault = s.fault := rfl
@[simp] theorem State.setFrameReady_cycles (v) : (s.setFrameReady v).cycles = s.cycles := rfl
@[simp] theorem State.setFrameReady_ime (v) : (s.setFrameReady v).ime = s.ime := rfl
@[simp] theorem State.setFrameReady_imeDelay (v) : (s.setFrameReady v).imeDelay = s.imeDelay := rfl
@[simp] theorem State.setFrameReady_raw (v) : (s.setFrameReady v).raw = s.raw := rfl
@[simp] theorem State.setFrameReady_bootActive (v) : (s.setFrameReady v).bootActive = s.bootActive := rfl
@[simp] theorem State.setFrameReady_cartBank (v) : (s.setFrameReady v).cartBank = s.cartBank := rfl
@[simp] theorem State.setFrameReady_params (v) : (s.setFrameReady v).params = s.params := rfl
@[simp] theorem State.setFrameReady_rom (v) : (s.setFrameReady v).rom = s.rom := rfl
@[simp] theorem State.setFrameReady_boot (v) : (s.setFrameReady v).boot = s.boot := rfl
@[simp] theorem State.setFrameReady_lastSample (v) : (s.setFrameReady v).lastSample = s.lastSample := rfl
@[simp] theorem State.setFrameReady_pendingOverflow (v) : (s.setFrameReady v).pendingOverflow = s.pendingOverflow := rfl
@[simp] theorem State.setFrameReady_lcdMode (v) : (s.setFrameReady v).lcdMode = s.lcdMode := rfl
@[simp] theorem State.setFrameReady_lcdAcc (v) : (s.setFrameReady v).lcdAcc = s.lcdAcc := rfl
@[simp] theorem State.setFrameReady_back (v) : (s.setFrameReady v).back = s.back := rfl
@[simp] theorem State.setFrameReady_frame (v) : (s.setFrameReady v).frame = s.frame := rfl
@[simp] theorem State.setFrameReady_frameReady (v) : (s.setFrameReady v).frameReady = v := rfl
@[simp] theorem State.setFrameReady_setFrameReady (v w) : (s.setFrameReady v).setFrameReady w = s.setFrameReady w := rfl
@[simp] theorem State.setFrameReady_self : s.setFrameReady s.frameReady = s := rfl

end Machine
end Sys2Proof
end

