-- ==== Sys2Proof/Laws/Memory.lean ====
section
/-! SUPPORT. The laws of the backing array and of the mapped read and write: what a write changes, what it leaves
alone, and what it keeps. -/

namespace Sys2Proof
namespace Machine

variable (s : State)

/-! ### The backing array -/

theorem rawGet_rawSet (x y : Nat) (v : Byte) :
    (s.rawSet x v).rawGet y = if y = x then v else s.rawGet y := Sparse.read_write _ _ _ _ _

@[simp] theorem rawGet_rawSet_same (x : Nat) (v : Byte) : (s.rawSet x v).rawGet x = v :=
  Sparse.read_write_same _ _ _ _

theorem rawGet_rawSet_other (x y : Nat) (v : Byte) (h : y ≠ x) : (s.rawSet x v).rawGet y = s.rawGet y :=
  Sparse.read_write_other _ _ _ _ _ h

/-- A read of the backing array sees nothing but the backing array. -/
theorem rawGet_congr (t : State) (h : t.raw = s.raw) (x : Nat) : t.rawGet x = s.rawGet x := by
  simp [State.rawGet, h]

@[simp] theorem rawOk_rawSet (x : Nat) (v : Byte) (h : s.rawOk = true) (hx : s.params.map.isStorage x = true) :
    (s.rawSet x v).rawOk = true := by
  simp only [State.rawOk, Memory.wf, Bool.and_eq_true] at h ⊢
  exact ⟨Sparse.canonical_write _ _ _ _ h.1, Sparse.all_write _ (fun c => s.params.map.isStorage c.1) _ _ _ h.2 hx⟩

/-- A raw write keeps the canonical form. -/
theorem wf_rawSet (x : Nat) (v : Byte) (h : Memory.wf s.raw = true) : Memory.wf (s.rawSet x v).raw = true :=
  Sparse.canonical_write _ _ _ _ h

@[simp] theorem rawSet_a (x v) : (s.rawSet x v).a = s.a := rfl
@[simp] theorem rawSet_b (x v) : (s.rawSet x v).b = s.b := rfl
@[simp] theorem rawSet_c (x v) : (s.rawSet x v).c = s.c := rfl
@[simp] theorem rawSet_d (x v) : (s.rawSet x v).d = s.d := rfl
@[simp] theorem rawSet_e (x v) : (s.rawSet x v).e = s.e := rfl
@[simp] theorem rawSet_h (x v) : (s.rawSet x v).h = s.h := rfl
@[simp] theorem rawSet_l (x v) : (s.rawSet x v).l = s.l := rfl
@[simp] theorem rawSet_flags (x v) : (s.rawSet x v).flags = s.flags := rfl
@[simp] theorem rawSet_sp (x v) : (s.rawSet x v).sp = s.sp := rfl
@[simp] theorem rawSet_pc (x v) : (s.rawSet x v).pc = s.pc := rfl
@[simp] theorem rawSet_halted (x v) : (s.rawSet x v).halted = s.halted := rfl
@[simp] theorem rawSet_stopped (x v) : (s.rawSet x v).stopped = s.stopped := rfl
@[simp] theorem rawSet_fault (x v) : (s.rawSet x v).fault = s.fault := rfl
@[simp] theorem rawSet_cycles (x v) : (s.rawSet x v).cycles = s.cycles := rfl
@[simp] theorem rawSet_ime (x v) : (s.rawSet x v).ime = s.ime := rfl
@[simp] theorem rawSet_imeDelay (x v) : (s.rawSet x v).imeDelay = s.imeDelay := rfl
@[simp] theorem rawSet_params (x v) : (s.rawSet x v).params = s.params := rfl
@[simp] theorem rawSet_rom (x v) : (s.rawSet x v).rom = s.rom := rfl
@[simp] theorem rawSet_boot (x v) : (s.rawSet x v).boot = s.boot := rfl
@[simp] theorem rawSet_pendingOverflow (x v) : (s.rawSet x v).pendingOverflow = s.pendingOverflow := rfl
@[simp] theorem rawSet_lcdMode (x v) : (s.rawSet x v).lcdMode = s.lcdMode := rfl
@[simp] theorem rawSet_lcdAcc (x v) : (s.rawSet x v).lcdAcc = s.lcdAcc := rfl
@[simp] theorem rawSet_back (x v) : (s.rawSet x v).back = s.back := rfl
@[simp] theorem rawSet_frame (x v) : (s.rawSet x v).frame = s.frame := rfl
@[simp] theorem rawSet_frameReady (x v) : (s.rawSet x v).frameReady = s.frameReady := rfl
@[simp] theorem rawSet_bootActive (x v) : (s.rawSet x v).bootActive = s.bootActive := rfl
@[simp] theorem rawSet_cartBank (x v) : (s.rawSet x v).cartBank = s.cartBank := rfl
@[simp] theorem rawSet_lastSample (x v) : (s.rawSet x v).lastSample = s.lastSample := rfl

@[simp] theorem setA_rawGet (v) (x : Nat) : (s.setA v).rawGet x = s.rawGet x := rfl
@[simp] theorem setB_rawGet (v) (x : Nat) : (s.setB v).rawGet x = s.rawGet x := rfl
@[simp] theorem setC_rawGet (v) (x : Nat) : (s.setC v).rawGet x = s.rawGet x := rfl
@[simp] theorem setD_rawGet (v) (x : Nat) : (s.setD v).rawGet x = s.rawGet x := rfl
@[simp] theorem setE_rawGet (v) (x : Nat) : (s.setE v).rawGet x = s.rawGet x := rfl
@[simp] theorem setH_rawGet (v) (x : Nat) : (s.setH v).rawGet x = s.rawGet x := rfl
@[simp] theorem setL_rawGet (v) (x : Nat) : (s.setL v).rawGet x = s.rawGet x := rfl
@[simp] theorem setFlags_rawGet (v) (x : Nat) : (s.setFlags v).rawGet x = s.rawGet x := rfl
@[simp] theorem setSp_rawGet (v) (x : Nat) : (s.setSp v).rawGet x = s.rawGet x := rfl
@[simp] theorem setPc_rawGet (v) (x : Nat) : (s.setPc v).rawGet x = s.rawGet x := rfl
@[simp] theorem setHalted_rawGet (v) (x : Nat) : (s.setHalted v).rawGet x = s.rawGet x := rfl
@[simp] theorem setStopped_rawGet (v) (x : Nat) : (s.setStopped v).rawGet x = s.rawGet x := rfl
@[simp] theorem setFault_rawGet (v) (x : Nat) : (s.setFault v).rawGet x = s.rawGet x := rfl
@[simp] theorem setCycles_rawGet (v) (x : Nat) : (s.setCycles v).rawGet x = s.rawGet x := rfl
@[simp] theorem setIme_rawGet (v) (x : Nat) : (s.setIme v).rawGet x = s.rawGet x := rfl
@[simp] theorem setImeDelay_rawGet (v) (x : Nat) : (s.setImeDelay v).rawGet x = s.rawGet x := rfl
@[simp] theorem setParams_rawGet (v) (x : Nat) : (s.setParams v).rawGet x = s.rawGet x := rfl
@[simp] theorem setRom_rawGet (v) (x : Nat) : (s.setRom v).rawGet x = s.rawGet x := rfl
@[simp] theorem setBoot_rawGet (v) (x : Nat) : (s.setBoot v).rawGet x = s.rawGet x := rfl
@[simp] theorem setPendingOverflow_rawGet (v) (x : Nat) : (s.setPendingOverflow v).rawGet x = s.rawGet x := rfl
@[simp] theorem setLcdMode_rawGet (v) (x : Nat) : (s.setLcdMode v).rawGet x = s.rawGet x := rfl
@[simp] theorem setLcdAcc_rawGet (v) (x : Nat) : (s.setLcdAcc v).rawGet x = s.rawGet x := rfl
@[simp] theorem setBack_rawGet (v) (x : Nat) : (s.setBack v).rawGet x = s.rawGet x := rfl
@[simp] theorem setFrame_rawGet (v) (x : Nat) : (s.setFrame v).rawGet x = s.rawGet x := rfl
@[simp] theorem setFrameReady_rawGet (v) (x : Nat) : (s.setFrameReady v).rawGet x = s.rawGet x := rfl
@[simp] theorem setBootActive_rawGet (v) (x : Nat) : (s.setBootActive v).rawGet x = s.rawGet x := rfl
@[simp] theorem setCartBank_rawGet (v) (x : Nat) : (s.setCartBank v).rawGet x = s.rawGet x := rfl
@[simp] theorem setLastSample_rawGet (v) (x : Nat) : (s.setLastSample v).rawGet x = s.rawGet x := rfl

/-! ### The named I/O registers -/

theorem isEcho_iff (x : Nat) : isEcho x = true ↔ 0xE000 ≤ x ∧ x ≤ 0xFDFF := by
  simp [isEcho]

theorem contains_iff (r : AddrRange) (x : Nat) : r.contains x = true ↔ r.first ≤ x ∧ x ≤ r.last := by
  simp [AddrRange.contains]

theorem isUnusable_iff (m : AddressMap) (x : Nat) :
    m.isUnusable x = true ↔ m.bounds.unusable.first ≤ x ∧ x ≤ m.bounds.unusable.last := contains_iff _ x

theorem isIo_iff (m : AddressMap) (x : Nat) : m.isIo x = true ↔ m.bounds.io.first ≤ x ∧ x ≤ m.bounds.io.last :=
  contains_iff _ x

/-- The two parts of a map's legality that concern its bounds. -/
theorem map_legal (m : AddressMap) : m.bounds.isPartition = true ∧ m.bounds.keepsSource = true := by
  have h := m.legal
  simp only [legalMap, Bool.and_eq_true] at h
  exact h.1.1

/-- Every range lies between the cartridge window and IE. -/
theorem map_range (m : AddressMap) (r : AddrRange) (h : r ∈ m.bounds.ranges) : 0x8000 ≤ r.first ∧ r.last < 0xFFFF := by
  have k := (map_legal m).1
  simp only [RegionBounds.isPartition, Bool.and_eq_true, List.all_eq_true, decide_eq_true_eq] at k
  exact ⟨(k.1 r h).1.1, (k.1 r h).1.2.2⟩

/-- The ranges are apart from each other. -/
theorem map_apart (m : AddressMap) : m.bounds.ranges.Pairwise AddrRange.apart := by
  have k := (map_legal m).1
  simp only [RegionBounds.isPartition, Bool.and_eq_true, decide_eq_true_eq] at k
  exact k.2

/-- What the source says of the regions, in numbers. -/
theorem map_source (m : AddressMap) : m.bounds.workRam.first ≤ 0xC000 ∧ 0xDDFF ≤ m.bounds.workRam.last
    ∧ m.bounds.spriteTable.last + 1 = m.bounds.spriteTable.first + 160 ∧ 0xFF00 ≤ m.bounds.io.first := by
  have k := (map_legal m).2
  simp only [RegionBounds.keepsSource, decide_eq_true_eq] at k
  exact k.2

/-- The unusable region lies above the cartridge window and below IE, apart from the mirror and from what it shows. -/
theorem map_unusable (m : AddressMap) {x : Nat} (h : m.isUnusable x = true) :
    0x8000 ≤ x ∧ x < 0xFFFF ∧ ¬ (0xE000 ≤ x ∧ x ≤ 0xFDFF) ∧ ¬ (0xC000 ≤ x ∧ x ≤ 0xDDFF) := by
  have a := map_apart m
  have r := map_range m m.bounds.unusable (by simp [RegionBounds.ranges])
  have s := map_source m
  simp only [RegionBounds.ranges, List.pairwise_cons, List.mem_cons, forall_eq_or_imp] at a
  have e1 : m.bounds.workRam.last < m.bounds.unusable.first ∨ m.bounds.unusable.last < m.bounds.workRam.first :=
    a.2.2.1.2.2.1
  have e2 : 0xFDFF < m.bounds.unusable.first ∨ m.bounds.unusable.last < 0xE000 := a.2.2.2.1.2.1
  clear a
  rw [isUnusable_iff] at h
  refine ⟨?_, ?_, ?_, ?_⟩ <;> omega

/-- The I/O region lies in the high page, below IE and apart from the unusable region. -/
theorem map_io (m : AddressMap) {x : Nat} (h : m.isIo x = true) : 0xFF00 ≤ x ∧ x < 0xFFFF ∧ m.isUnusable x = false := by
  have a := map_apart m
  have r := map_range m m.bounds.io (by simp [RegionBounds.ranges])
  have s := map_source m
  simp only [RegionBounds.ranges, List.pairwise_cons, List.mem_cons, forall_eq_or_imp] at a
  have e : m.bounds.unusable.last < m.bounds.io.first ∨ m.bounds.io.last < m.bounds.unusable.first := a.2.2.2.2.2.1.1
  clear a
  rw [isIo_iff] at h
  refine ⟨by omega, by omega, ?_⟩
  rw [Bool.eq_false_iff, Ne, isUnusable_iff]
  omega

/-- The sprite table lies above the cartridge window and below IE, apart from the mirror and from what it shows, from the
unusable region and from the I/O region. -/
theorem map_sprite (m : AddressMap) {x : Nat} (h : m.bounds.spriteTable.contains x = true) :
    0x8000 ≤ x ∧ x < 0xFFFF ∧ ¬ (0xE000 ≤ x ∧ x ≤ 0xFDFF) ∧ ¬ (0xC000 ≤ x ∧ x ≤ 0xDDFF) ∧ m.isUnusable x = false
      ∧ m.isIo x = false := by
  have a := map_apart m
  have r := map_range m m.bounds.spriteTable (by simp [RegionBounds.ranges])
  have s := map_source m
  simp only [RegionBounds.ranges, List.pairwise_cons, List.mem_cons, forall_eq_or_imp] at a
  have e1 : m.bounds.workRam.last < m.bounds.spriteTable.first ∨ m.bounds.spriteTable.last < m.bounds.workRam.first :=
    a.2.2.1.2.1
  have e2 : 0xFDFF < m.bounds.spriteTable.first ∨ m.bounds.spriteTable.last < 0xE000 := a.2.2.2.1.1
  have e3 : m.bounds.spriteTable.last < m.bounds.unusable.first ∨ m.bounds.unusable.last < m.bounds.spriteTable.first :=
    a.2.2.2.2.1.1
  have e4 : m.bounds.spriteTable.last < m.bounds.io.first ∨ m.bounds.io.last < m.bounds.spriteTable.first :=
    a.2.2.2.2.1.2.1
  clear a
  rw [contains_iff] at h
  refine ⟨by omega, by omega, by omega, by omega, ?_, ?_⟩
  · rw [Bool.eq_false_iff, Ne, isUnusable_iff]; omega
  · rw [Bool.eq_false_iff, Ne, isIo_iff]; omega

/-- The 160 bytes of the sprite table. -/
theorem spriteFirst_add (m : AddressMap) {i : Nat} (h : i < 160) :
    m.bounds.spriteTable.contains (m.spriteFirst + i) = true := by
  have s := map_source m
  rw [contains_iff]
  unfold AddressMap.spriteFirst
  omega

/-- A byte outside the sprite table is none of the 160. -/
theorem ne_spriteFirst_add (m : AddressMap) {x i : Nat} (hx : m.bounds.spriteTable.contains x = false) (h : i < 160) :
    x ≠ m.spriteFirst + i := fun e => Bool.false_ne_true (hx.symm.trans (e ▸ spriteFirst_add m h))

/-- The ranges leave no gap: an address above the cartridge window and below IE lies in one of them. -/
theorem map_covers (m : AddressMap) (n : Nat) (h : 0x8000 + n < 0xFFFF) :
    ∃ r ∈ m.bounds.ranges, r.contains (0x8000 + n) = true := by
  have k := (map_legal m).1
  have v := (map_legal m).2
  simp only [RegionBounds.isPartition, Bool.and_eq_true, Bool.or_eq_true, List.all_eq_true, List.any_eq_true,
    decide_eq_true_eq] at k
  simp only [RegionBounds.keepsSource, decide_eq_true_eq] at v
  induction n with
  | zero =>
    have hv : m.bounds.videoRam ∈ m.bounds.ranges := by simp [RegionBounds.ranges]
    exact ⟨_, hv, (contains_iff _ _).2 ⟨by have := v.1; simp only [Config.romLast] at this; omega,
      by have := (k.1 _ hv).1; omega⟩⟩
  | succ n ih =>
    obtain ⟨r, hr, e⟩ := ih (by omega)
    rw [contains_iff] at e
    by_cases hl : 0x8000 + n < r.last
    · exact ⟨r, hr, (contains_iff _ _).2 (by omega)⟩
    · rcases (k.1 r hr).2 with f | ⟨q, hq, f⟩
      · simp only [Config.addrIE] at f; omega
      · exact ⟨q, hq, (contains_iff _ _).2 ⟨by omega, by have := (k.1 q hq).1; omega⟩⟩

/-- The plain regions are all that is above the cartridge window but the mirror, the unusable region and the I/O region
(R68). -/
theorem isPlain_iff (m : AddressMap) (x : Nat) : m.isPlain x = true ↔
    0x8000 ≤ x ∧ ¬ (0xE000 ≤ x ∧ x ≤ 0xFDFF) ∧ m.isUnusable x = false ∧ m.isIo x = false := by
  unfold AddressMap.isPlain AddressMap.region
  by_cases h1 : x ≤ Config.romLast
  · simp only [if_pos h1]
    simp only [Config.romLast] at h1
    exact ⟨fun h => absurd h (by decide), fun h => by omega⟩
  have h8 : 0x8000 ≤ x := by simp only [Config.romLast] at h1; omega
  rw [if_neg h1]
  by_cases h2 : Config.echoFirst ≤ x ∧ x ≤ Config.echoLast
  · simp only [if_pos h2]
    exact ⟨fun h => absurd h (by decide), fun h => absurd h2 h.2.1⟩
  rw [if_neg h2]
  cases h3 : m.isUnusable x
  · cases h4 : m.isIo x
    · simp only [h8, Bool.false_eq_true, if_false, true_and, and_true]
      refine iff_of_true ?_ h2
      cases m.bounds.videoRam.contains x <;> cases m.bounds.externalRam.contains x <;> cases m.bounds.workRam.contains x <;>
        cases m.bounds.spriteTable.contains x <;> cases m.bounds.highRam.contains x <;> rfl
    · simp
  · simp

/-- The region of the last address alone is IE: the ranges cover the rest (R61). -/
theorem region_ie (m : AddressMap) (x : Nat) (hx : x ≤ 0xFFFF) : m.region x = .ie ↔ x = 0xFFFF := by
  constructor
  · intro h
    by_contra hn
    unfold AddressMap.region at h
    by_cases h1 : x ≤ Config.romLast
    · rw [if_pos h1] at h; cases h
    rw [if_neg h1] at h
    simp only [Config.romLast] at h1
    obtain ⟨r, hr, e⟩ := map_covers m (x - 0x8000) (by omega)
    rw [show 0x8000 + (x - 0x8000) = x by omega] at e
    simp only [RegionBounds.ranges, List.mem_cons, List.not_mem_nil, or_false] at hr
    split at h; · cases h
    next h2 =>
    split at h; · cases h
    next h3 =>
    split at h; · cases h
    next h4 =>
    split at h; · cases h
    next h5 =>
    split at h; · cases h
    next h6 =>
    split at h; · cases h
    next h7 =>
    split at h; · cases h
    next h8 =>
    split at h; · cases h
    next h9 =>
    rcases hr with rfl | rfl | rfl | rfl | rfl | rfl | rfl | rfl
    · exact h5 e
    · exact h6 e
    · exact h7 e
    · exact h2 ((contains_iff _ _).1 e)
    · exact h8 e
    · exact h3 e
    · exact h4 e
    · exact h9 e
  · rintro rfl
    have hn : ∀ r ∈ m.bounds.ranges, r.contains 0xFFFF = false := fun r hr => by
      rw [Bool.eq_false_iff, Ne, contains_iff]
      have := map_range m r hr
      omega
    simp only [RegionBounds.ranges, List.mem_cons, forall_eq_or_imp, List.not_mem_nil, false_imp_iff, implies_true] at hn
    obtain ⟨n1, n2, n3, -, n5, n6, n7, n8, -⟩ := hn
    simp [AddressMap.region, AddressMap.isUnusable, AddressMap.isIo, n1, n2, n3, n5, n6, n7, n8]

/-- The registers but IE lie in the I/O region. -/
theorem map_addr_io (m : AddressMap) (r : IoReg) (h : r ≠ .IE) : m.isIo (m.addr r) = true := by
  have k := m.legal
  simp only [legalMap, Bool.and_eq_true, List.all_eq_true, decide_eq_true_eq] at k
  exact (isIo_iff _ _).2 ((k.1.2 r (by cases r <;> decide)).resolve_left h)

@[simp] theorem map_addr_IE (m : AddressMap) : m.addr .IE = 0xFFFF := rfl

/-- Every named register lies in the high page, outside the unusable region and outside the sprite table. -/
theorem map_addr_range (m : AddressMap) (r : IoReg) : 0xFF00 ≤ m.addr r ∧ m.addr r ≤ 0xFFFF
    ∧ m.isUnusable (m.addr r) = false ∧ m.bounds.spriteTable.contains (m.addr r) = false := by
  by_cases h : r = .IE
  · subst h
    rw [map_addr_IE]
    refine ⟨by omega, by omega, ?_, ?_⟩
    · rw [Bool.eq_false_iff]; intro e; have := map_unusable m e; omega
    · rw [Bool.eq_false_iff]; intro e; have := map_sprite m e; omega
  · have i := map_addr_io m r h
    have k := map_io m i
    refine ⟨k.1, by omega, k.2.2, ?_⟩
    rw [Bool.eq_false_iff]
    intro e
    exact Bool.false_ne_true ((map_sprite m e).2.2.2.2.2.symm.trans i)

/-- No two registers lie at one address. -/
@[simp] theorem map_addr_inj (m : AddressMap) (r q : IoReg) : m.addr r = m.addr q ↔ r = q := by
  have k := m.legal
  simp only [legalMap, Bool.and_eq_true, decide_eq_true_eq] at k
  exact ⟨fun h => List.inj_on_of_nodup_map k.2 (by cases r <;> decide) (by cases q <;> decide) h, fun h => h ▸ rfl⟩

@[simp] theorem ioGet_ioSet_same (r : IoReg) (v : Byte) : (s.ioSet r v).ioGet r = v := rawGet_rawSet_same s _ v

theorem ioGet_ioSet (r q : IoReg) (v : Byte) : (s.ioSet r v).ioGet q = if q = r then v else s.ioGet q := by
  refine (rawGet_rawSet s (s.addr r) (s.addr q) v).trans ?_
  simp only [State.addr, map_addr_inj]
  rfl

theorem ioGet_ioSet_other (r q : IoReg) (v : Byte) (h : q ≠ r) : (s.ioSet r v).ioGet q = s.ioGet q := by
  rw [ioGet_ioSet, if_neg h]

theorem rawGet_ioSet_other (r : IoReg) (y : Nat) (v : Byte) (h : y ≠ s.params.map.addr r) :
    (s.ioSet r v).rawGet y = s.rawGet y := rawGet_rawSet_other s _ _ v h

/-- A raw write below the I/O region leaves every named register alone. -/
theorem ioGet_rawSet_other (x : Nat) (q : IoReg) (v : Byte) (h : s.params.map.addr q ≠ x) :
    (s.rawSet x v).ioGet q = s.ioGet q := rawGet_rawSet_other s x _ v h

/-- A named register sees nothing but the backing array and the map. -/
theorem ioGet_congr (t : State) (h : t.raw = s.raw) (hp : t.params = s.params) (r : IoReg) : t.ioGet r = s.ioGet r := by
  simp [State.ioGet, State.rawGet, h, hp]

@[simp] theorem ioSet_a (x v) : (s.ioSet x v).a = s.a := rfl
@[simp] theorem ioSet_b (x v) : (s.ioSet x v).b = s.b := rfl
@[simp] theorem ioSet_c (x v) : (s.ioSet x v).c = s.c := rfl
@[simp] theorem ioSet_d (x v) : (s.ioSet x v).d = s.d := rfl
@[simp] theorem ioSet_e (x v) : (s.ioSet x v).e = s.e := rfl
@[simp] theorem ioSet_h (x v) : (s.ioSet x v).h = s.h := rfl
@[simp] theorem ioSet_l (x v) : (s.ioSet x v).l = s.l := rfl
@[simp] theorem ioSet_flags (x v) : (s.ioSet x v).flags = s.flags := rfl
@[simp] theorem ioSet_sp (x v) : (s.ioSet x v).sp = s.sp := rfl
@[simp] theorem ioSet_pc (x v) : (s.ioSet x v).pc = s.pc := rfl
@[simp] theorem ioSet_halted (x v) : (s.ioSet x v).halted = s.halted := rfl
@[simp] theorem ioSet_stopped (x v) : (s.ioSet x v).stopped = s.stopped := rfl
@[simp] theorem ioSet_fault (x v) : (s.ioSet x v).fault = s.fault := rfl
@[simp] theorem ioSet_cycles (x v) : (s.ioSet x v).cycles = s.cycles := rfl
@[simp] theorem ioSet_ime (x v) : (s.ioSet x v).ime = s.ime := rfl
@[simp] theorem ioSet_imeDelay (x v) : (s.ioSet x v).imeDelay = s.imeDelay := rfl
@[simp] theorem ioSet_params (x v) : (s.ioSet x v).params = s.params := rfl
@[simp] theorem ioSet_rom (x v) : (s.ioSet x v).rom = s.rom := rfl
@[simp] theorem ioSet_boot (x v) : (s.ioSet x v).boot = s.boot := rfl
@[simp] theorem ioSet_pendingOverflow (x v) : (s.ioSet x v).pendingOverflow = s.pendingOverflow := rfl
@[simp] theorem ioSet_lcdMode (x v) : (s.ioSet x v).lcdMode = s.lcdMode := rfl
@[simp] theorem ioSet_lcdAcc (x v) : (s.ioSet x v).lcdAcc = s.lcdAcc := rfl
@[simp] theorem ioSet_back (x v) : (s.ioSet x v).back = s.back := rfl
@[simp] theorem ioSet_frame (x v) : (s.ioSet x v).frame = s.frame := rfl
@[simp] theorem ioSet_frameReady (x v) : (s.ioSet x v).frameReady = s.frameReady := rfl
@[simp] theorem ioSet_bootActive (x v) : (s.ioSet x v).bootActive = s.bootActive := rfl
@[simp] theorem ioSet_cartBank (x v) : (s.ioSet x v).cartBank = s.cartBank := rfl
@[simp] theorem ioSet_lastSample (x v) : (s.ioSet x v).lastSample = s.lastSample := rfl

@[simp] theorem setA_ioGet (v) (r : IoReg) : (s.setA v).ioGet r = s.ioGet r := rfl
@[simp] theorem setB_ioGet (v) (r : IoReg) : (s.setB v).ioGet r = s.ioGet r := rfl
@[simp] theorem setC_ioGet (v) (r : IoReg) : (s.setC v).ioGet r = s.ioGet r := rfl
@[simp] theorem setD_ioGet (v) (r : IoReg) : (s.setD v).ioGet r = s.ioGet r := rfl
@[simp] theorem setE_ioGet (v) (r : IoReg) : (s.setE v).ioGet r = s.ioGet r := rfl
@[simp] theorem setH_ioGet (v) (r : IoReg) : (s.setH v).ioGet r = s.ioGet r := rfl
@[simp] theorem setL_ioGet (v) (r : IoReg) : (s.setL v).ioGet r = s.ioGet r := rfl
@[simp] theorem setFlags_ioGet (v) (r : IoReg) : (s.setFlags v).ioGet r = s.ioGet r := rfl
@[simp] theorem setSp_ioGet (v) (r : IoReg) : (s.setSp v).ioGet r = s.ioGet r := rfl
@[simp] theorem setPc_ioGet (v) (r : IoReg) : (s.setPc v).ioGet r = s.ioGet r := rfl
@[simp] theorem setHalted_ioGet (v) (r : IoReg) : (s.setHalted v).ioGet r = s.ioGet r := rfl
@[simp] theorem setStopped_ioGet (v) (r : IoReg) : (s.setStopped v).ioGet r = s.ioGet r := rfl
@[simp] theorem setFault_ioGet (v) (r : IoReg) : (s.setFault v).ioGet r = s.ioGet r := rfl
@[simp] theorem setCycles_ioGet (v) (r : IoReg) : (s.setCycles v).ioGet r = s.ioGet r := rfl
@[simp] theorem setIme_ioGet (v) (r : IoReg) : (s.setIme v).ioGet r = s.ioGet r := rfl
@[simp] theorem setImeDelay_ioGet (v) (r : IoReg) : (s.setImeDelay v).ioGet r = s.ioGet r := rfl
@[simp] theorem setRom_ioGet (v) (r : IoReg) : (s.setRom v).ioGet r = s.ioGet r := rfl
@[simp] theorem setBoot_ioGet (v) (r : IoReg) : (s.setBoot v).ioGet r = s.ioGet r := rfl
@[simp] theorem setPendingOverflow_ioGet (v) (r : IoReg) : (s.setPendingOverflow v).ioGet r = s.ioGet r := rfl
@[simp] theorem setLcdMode_ioGet (v) (r : IoReg) : (s.setLcdMode v).ioGet r = s.ioGet r := rfl
@[simp] theorem setLcdAcc_ioGet (v) (r : IoReg) : (s.setLcdAcc v).ioGet r = s.ioGet r := rfl
@[simp] theorem setBack_ioGet (v) (r : IoReg) : (s.setBack v).ioGet r = s.ioGet r := rfl
@[simp] theorem setFrame_ioGet (v) (r : IoReg) : (s.setFrame v).ioGet r = s.ioGet r := rfl
@[simp] theorem setFrameReady_ioGet (v) (r : IoReg) : (s.setFrameReady v).ioGet r = s.ioGet r := rfl
@[simp] theorem setBootActive_ioGet (v) (r : IoReg) : (s.setBootActive v).ioGet r = s.ioGet r := rfl
@[simp] theorem setCartBank_ioGet (v) (r : IoReg) : (s.setCartBank v).ioGet r = s.ioGet r := rfl
@[simp] theorem setLastSample_ioGet (v) (r : IoReg) : (s.setLastSample v).ioGet r = s.ioGet r := rfl

@[simp] theorem raiseBit_a (x k) : (s.raiseBit x k).a = s.a := rfl
@[simp] theorem raiseBit_b (x k) : (s.raiseBit x k).b = s.b := rfl
@[simp] theorem raiseBit_c (x k) : (s.raiseBit x k).c = s.c := rfl
@[simp] theorem raiseBit_d (x k) : (s.raiseBit x k).d = s.d := rfl
@[simp] theorem raiseBit_e (x k) : (s.raiseBit x k).e = s.e := rfl
@[simp] theorem raiseBit_h (x k) : (s.raiseBit x k).h = s.h := rfl
@[simp] theorem raiseBit_l (x k) : (s.raiseBit x k).l = s.l := rfl
@[simp] theorem raiseBit_flags (x k) : (s.raiseBit x k).flags = s.flags := rfl
@[simp] theorem raiseBit_sp (x k) : (s.raiseBit x k).sp = s.sp := rfl
@[simp] theorem raiseBit_pc (x k) : (s.raiseBit x k).pc = s.pc := rfl
@[simp] theorem raiseBit_halted (x k) : (s.raiseBit x k).halted = s.halted := rfl
@[simp] theorem raiseBit_stopped (x k) : (s.raiseBit x k).stopped = s.stopped := rfl
@[simp] theorem raiseBit_fault (x k) : (s.raiseBit x k).fault = s.fault := rfl
@[simp] theorem raiseBit_cycles (x k) : (s.raiseBit x k).cycles = s.cycles := rfl
@[simp] theorem raiseBit_ime (x k) : (s.raiseBit x k).ime = s.ime := rfl
@[simp] theorem raiseBit_imeDelay (x k) : (s.raiseBit x k).imeDelay = s.imeDelay := rfl
@[simp] theorem raiseBit_params (x k) : (s.raiseBit x k).params = s.params := rfl
@[simp] theorem raiseBit_rom (x k) : (s.raiseBit x k).rom = s.rom := rfl
@[simp] theorem raiseBit_boot (x k) : (s.raiseBit x k).boot = s.boot := rfl
@[simp] theorem raiseBit_pendingOverflow (x k) : (s.raiseBit x k).pendingOverflow = s.pendingOverflow := rfl
@[simp] theorem raiseBit_lcdMode (x k) : (s.raiseBit x k).lcdMode = s.lcdMode := rfl
@[simp] theorem raiseBit_lcdAcc (x k) : (s.raiseBit x k).lcdAcc = s.lcdAcc := rfl
@[simp] theorem raiseBit_back (x k) : (s.raiseBit x k).back = s.back := rfl
@[simp] theorem raiseBit_frame (x k) : (s.raiseBit x k).frame = s.frame := rfl
@[simp] theorem raiseBit_frameReady (x k) : (s.raiseBit x k).frameReady = s.frameReady := rfl
@[simp] theorem raiseBit_bootActive (x k) : (s.raiseBit x k).bootActive = s.bootActive := rfl
@[simp] theorem raiseBit_cartBank (x k) : (s.raiseBit x k).cartBank = s.cartBank := rfl
@[simp] theorem raiseBit_lastSample (x k) : (s.raiseBit x k).lastSample = s.lastSample := rfl

@[simp] theorem charge_eq (n : Nat) : s.charge n = s.setCycles n := rfl

/-! ### What a mapped write can do -/

/-- The states that differ from `s` at most in what a mapped write can change: the backing array, the overlay latch,
the bank register and the timer's sample. -/
def WriteLike (t : State) : Prop :=
  ∃ r b c l, t = (((s.setRaw r).setBootActive b).setCartBank c).setLastSample l

theorem WriteLike.refl : WriteLike s s := ⟨s.raw, s.bootActive, s.cartBank, s.lastSample, rfl⟩

variable {s}

theorem WriteLike.setRaw {t : State} (h : WriteLike s t) (v : Memory) : WriteLike s (t.setRaw v) := by
  obtain ⟨r, b, c, l, rfl⟩ := h
  exact ⟨v, b, c, l, rfl⟩

theorem WriteLike.setBootActive {t : State} (h : WriteLike s t) (v : Bool) : WriteLike s (t.setBootActive v) := by
  obtain ⟨r, b, c, l, rfl⟩ := h
  exact ⟨r, v, c, l, rfl⟩

theorem WriteLike.setCartBank {t : State} (h : WriteLike s t) (v : BitVec 5) : WriteLike s (t.setCartBank v) := by
  obtain ⟨r, b, c, l, rfl⟩ := h
  exact ⟨r, b, v, l, rfl⟩

theorem WriteLike.setLastSample {t : State} (h : WriteLike s t) (v : Bool) : WriteLike s (t.setLastSample v) := by
  obtain ⟨r, b, c, l, rfl⟩ := h
  exact ⟨r, b, c, v, rfl⟩

theorem WriteLike.trans {t u : State} (h1 : WriteLike s t) (h2 : WriteLike t u) : WriteLike s u := by
  obtain ⟨r, b, c, l, rfl⟩ := h2
  exact (((h1.setRaw r).setBootActive b).setCartBank c).setLastSample l

theorem WriteLike.rawSet {t : State} (h : WriteLike s t) (x : Nat) (v : Byte) : WriteLike s (t.rawSet x v) :=
  h.setRaw _

theorem WriteLike.dmaCopy {t : State} (h : WriteLike s t) (v : Byte) : WriteLike s (t.dmaCopy v) := by
  unfold State.dmaCopy
  generalize List.range Config.dmaLength = is
  induction is generalizing t with
  | nil => exact h
  | cons i is ih => exact ih (h.rawSet _ _)

variable (s)

theorem writeLike_ioWrite (x : Nat) (v : Byte) : WriteLike s (s.ioWrite x v) := by
  unfold State.ioWrite
  split
  · exact (((WriteLike.refl s).rawSet _ _).rawSet _ _).setLastSample _
  split
  · exact ((WriteLike.refl s).rawSet _ _).setLastSample _
  split
  · exact (WriteLike.refl s).rawSet _ _
  split
  · exact .refl s
  split
  · exact ((WriteLike.refl s).rawSet _ _).dmaCopy v
  split
  · split
    · exact ((WriteLike.refl s).rawSet _ _).setBootActive _
    · exact (WriteLike.refl s).rawSet _ _
  · exact (WriteLike.refl s).rawSet _ _

/-- A mapped write changes the backing array, the overlay latch, the bank register and the timer's sample at most. -/
theorem writeLike_memWrite (a : Word) (v : Byte) : WriteLike s (s.memWrite a v) := by
  unfold State.memWrite State.writeAt
  split
  · unfold State.cartWrite
    split
    · exact (WriteLike.refl s).setCartBank _
    · exact .refl s
  split
  · exact (WriteLike.refl s).rawSet _ _
  split
  · exact .refl s
  split
  · exact writeLike_ioWrite s _ _
  · exact (WriteLike.refl s).rawSet _ _

@[simp] theorem memWrite_a (x v) : (s.memWrite x v).a = s.a := by
  obtain ⟨_, _, _, _, h⟩ := writeLike_memWrite s x v; rw [h]; rfl
@[simp] theorem memWrite_b (x v) : (s.memWrite x v).b = s.b := by
  obtain ⟨_, _, _, _, h⟩ := writeLike_memWrite s x v; rw [h]; rfl
@[simp] theorem memWrite_c (x v) : (s.memWrite x v).c = s.c := by
  obtain ⟨_, _, _, _, h⟩ := writeLike_memWrite s x v; rw [h]; rfl
@[simp] theorem memWrite_d (x v) : (s.memWrite x v).d = s.d := by
  obtain ⟨_, _, _, _, h⟩ := writeLike_memWrite s x v; rw [h]; rfl
@[simp] theorem memWrite_e (x v) : (s.memWrite x v).e = s.e := by
  obtain ⟨_, _, _, _, h⟩ := writeLike_memWrite s x v; rw [h]; rfl
@[simp] theorem memWrite_h (x v) : (s.memWrite x v).h = s.h := by
  obtain ⟨_, _, _, _, h⟩ := writeLike_memWrite s x v; rw [h]; rfl
@[simp] theorem memWrite_l (x v) : (s.memWrite x v).l = s.l := by
  obtain ⟨_, _, _, _, h⟩ := writeLike_memWrite s x v; rw [h]; rfl
@[simp] theorem memWrite_flags (x v) : (s.memWrite x v).flags = s.flags := by
  obtain ⟨_, _, _, _, h⟩ := writeLike_memWrite s x v; rw [h]; rfl
@[simp] theorem memWrite_sp (x v) : (s.memWrite x v).sp = s.sp := by
  obtain ⟨_, _, _, _, h⟩ := writeLike_memWrite s x v; rw [h]; rfl
@[simp] theorem memWrite_pc (x v) : (s.memWrite x v).pc = s.pc := by
  obtain ⟨_, _, _, _, h⟩ := writeLike_memWrite s x v; rw [h]; rfl
@[simp] theorem memWrite_halted (x v) : (s.memWrite x v).halted = s.halted := by
  obtain ⟨_, _, _, _, h⟩ := writeLike_memWrite s x v; rw [h]; rfl
@[simp] theorem memWrite_stopped (x v) : (s.memWrite x v).stopped = s.stopped := by
  obtain ⟨_, _, _, _, h⟩ := writeLike_memWrite s x v; rw [h]; rfl
@[simp] theorem memWrite_fault (x v) : (s.memWrite x v).fault = s.fault := by
  obtain ⟨_, _, _, _, h⟩ := writeLike_memWrite s x v; rw [h]; rfl
@[simp] theorem memWrite_cycles (x v) : (s.memWrite x v).cycles = s.cycles := by
  obtain ⟨_, _, _, _, h⟩ := writeLike_memWrite s x v; rw [h]; rfl
@[simp] theorem memWrite_ime (x v) : (s.memWrite x v).ime = s.ime := by
  obtain ⟨_, _, _, _, h⟩ := writeLike_memWrite s x v; rw [h]; rfl
@[simp] theorem memWrite_imeDelay (x v) : (s.memWrite x v).imeDelay = s.imeDelay := by
  obtain ⟨_, _, _, _, h⟩ := writeLike_memWrite s x v; rw [h]; rfl
@[simp] theorem memWrite_params (x v) : (s.memWrite x v).params = s.params := by
  obtain ⟨_, _, _, _, h⟩ := writeLike_memWrite s x v; rw [h]; rfl
@[simp] theorem memWrite_rom (x v) : (s.memWrite x v).rom = s.rom := by
  obtain ⟨_, _, _, _, h⟩ := writeLike_memWrite s x v; rw [h]; rfl
@[simp] theorem memWrite_boot (x v) : (s.memWrite x v).boot = s.boot := by
  obtain ⟨_, _, _, _, h⟩ := writeLike_memWrite s x v; rw [h]; rfl
@[simp] theorem memWrite_pendingOverflow (x v) : (s.memWrite x v).pendingOverflow = s.pendingOverflow := by
  obtain ⟨_, _, _, _, h⟩ := writeLike_memWrite s x v; rw [h]; rfl
@[simp] theorem memWrite_lcdMode (x v) : (s.memWrite x v).lcdMode = s.lcdMode := by
  obtain ⟨_, _, _, _, h⟩ := writeLike_memWrite s x v; rw [h]; rfl
@[simp] theorem memWrite_lcdAcc (x v) : (s.memWrite x v).lcdAcc = s.lcdAcc := by
  obtain ⟨_, _, _, _, h⟩ := writeLike_memWrite s x v; rw [h]; rfl
@[simp] theorem memWrite_back (x v) : (s.memWrite x v).back = s.back := by
  obtain ⟨_, _, _, _, h⟩ := writeLike_memWrite s x v; rw [h]; rfl
@[simp] theorem memWrite_frame (x v) : (s.memWrite x v).frame = s.frame := by
  obtain ⟨_, _, _, _, h⟩ := writeLike_memWrite s x v; rw [h]; rfl
@[simp] theorem memWrite_frameReady (x v) : (s.memWrite x v).frameReady = s.frameReady := by
  obtain ⟨_, _, _, _, h⟩ := writeLike_memWrite s x v; rw [h]; rfl

@[simp] theorem ioWrite_a (x v) : (s.ioWrite x v).a = s.a := by
  obtain ⟨_, _, _, _, h⟩ := writeLike_ioWrite s x v; rw [h]; rfl
@[simp] theorem ioWrite_b (x v) : (s.ioWrite x v).b = s.b := by
  obtain ⟨_, _, _, _, h⟩ := writeLike_ioWrite s x v; rw [h]; rfl
@[simp] theorem ioWrite_c (x v) : (s.ioWrite x v).c = s.c := by
  obtain ⟨_, _, _, _, h⟩ := writeLike_ioWrite s x v; rw [h]; rfl
@[simp] theorem ioWrite_d (x v) : (s.ioWrite x v).d = s.d := by
  obtain ⟨_, _, _, _, h⟩ := writeLike_ioWrite s x v; rw [h]; rfl
@[simp] theorem ioWrite_e (x v) : (s.ioWrite x v).e = s.e := by
  obtain ⟨_, _, _, _, h⟩ := writeLike_ioWrite s x v; rw [h]; rfl
@[simp] theorem ioWrite_h (x v) : (s.ioWrite x v).h = s.h := by
  obtain ⟨_, _, _, _, h⟩ := writeLike_ioWrite s x v; rw [h]; rfl
@[simp] theorem ioWrite_l (x v) : (s.ioWrite x v).l = s.l := by
  obtain ⟨_, _, _, _, h⟩ := writeLike_ioWrite s x v; rw [h]; rfl
@[simp] theorem ioWrite_flags (x v) : (s.ioWrite x v).flags = s.flags := by
  obtain ⟨_, _, _, _, h⟩ := writeLike_ioWrite s x v; rw [h]; rfl
@[simp] theorem ioWrite_sp (x v) : (s.ioWrite x v).sp = s.sp := by
  obtain ⟨_, _, _, _, h⟩ := writeLike_ioWrite s x v; rw [h]; rfl
@[simp] theorem ioWrite_pc (x v) : (s.ioWrite x v).pc = s.pc := by
  obtain ⟨_, _, _, _, h⟩ := writeLike_ioWrite s x v; rw [h]; rfl
@[simp] theorem ioWrite_halted (x v) : (s.ioWrite x v).halted = s.halted := by
  obtain ⟨_, _, _, _, h⟩ := writeLike_ioWrite s x v; rw [h]; rfl
@[simp] theorem ioWrite_stopped (x v) : (s.ioWrite x v).stopped = s.stopped := by
  obtain ⟨_, _, _, _, h⟩ := writeLike_ioWrite s x v; rw [h]; rfl
@[simp] theorem ioWrite_fault (x v) : (s.ioWrite x v).fault = s.fault := by
  obtain ⟨_, _, _, _, h⟩ := writeLike_ioWrite s x v; rw [h]; rfl
@[simp] theorem ioWrite_cycles (x v) : (s.ioWrite x v).cycles = s.cycles := by
  obtain ⟨_, _, _, _, h⟩ := writeLike_ioWrite s x v; rw [h]; rfl
@[simp] theorem ioWrite_ime (x v) : (s.ioWrite x v).ime = s.ime := by
  obtain ⟨_, _, _, _, h⟩ := writeLike_ioWrite s x v; rw [h]; rfl
@[simp] theorem ioWrite_imeDelay (x v) : (s.ioWrite x v).imeDelay = s.imeDelay := by
  obtain ⟨_, _, _, _, h⟩ := writeLike_ioWrite s x v; rw [h]; rfl
@[simp] theorem ioWrite_params (x v) : (s.ioWrite x v).params = s.params := by
  obtain ⟨_, _, _, _, h⟩ := writeLike_ioWrite s x v; rw [h]; rfl
@[simp] theorem ioWrite_rom (x v) : (s.ioWrite x v).rom = s.rom := by
  obtain ⟨_, _, _, _, h⟩ := writeLike_ioWrite s x v; rw [h]; rfl
@[simp] theorem ioWrite_boot (x v) : (s.ioWrite x v).boot = s.boot := by
  obtain ⟨_, _, _, _, h⟩ := writeLike_ioWrite s x v; rw [h]; rfl
@[simp] theorem ioWrite_pendingOverflow (x v) : (s.ioWrite x v).pendingOverflow = s.pendingOverflow := by
  obtain ⟨_, _, _, _, h⟩ := writeLike_ioWrite s x v; rw [h]; rfl
@[simp] theorem ioWrite_lcdMode (x v) : (s.ioWrite x v).lcdMode = s.lcdMode := by
  obtain ⟨_, _, _, _, h⟩ := writeLike_ioWrite s x v; rw [h]; rfl
@[simp] theorem ioWrite_lcdAcc (x v) : (s.ioWrite x v).lcdAcc = s.lcdAcc := by
  obtain ⟨_, _, _, _, h⟩ := writeLike_ioWrite s x v; rw [h]; rfl
@[simp] theorem ioWrite_back (x v) : (s.ioWrite x v).back = s.back := by
  obtain ⟨_, _, _, _, h⟩ := writeLike_ioWrite s x v; rw [h]; rfl
@[simp] theorem ioWrite_frame (x v) : (s.ioWrite x v).frame = s.frame := by
  obtain ⟨_, _, _, _, h⟩ := writeLike_ioWrite s x v; rw [h]; rfl
@[simp] theorem ioWrite_frameReady (x v) : (s.ioWrite x v).frameReady = s.frameReady := by
  obtain ⟨_, _, _, _, h⟩ := writeLike_ioWrite s x v; rw [h]; rfl

/-! ### What a read sees -/

/-- A mapped read depends on the backing array, the map, the images, the overlay latch and the bank register. -/
theorem readAt_congr (t : State) (h1 : t.raw = s.raw) (h2 : t.bootActive = s.bootActive)
    (h3 : t.cartBank = s.cartBank) (h4 : t.rom = s.rom) (h5 : t.boot = s.boot)
    (h6 : t.params = s.params) (x : Nat) : t.readAt x = s.readAt x := by
  cases s; cases t
  cases h1; cases h2; cases h3; cases h4; cases h5; cases h6
  rfl

@[simp] theorem setA_memRead (v) (x : Word) : (s.setA v).memRead x = s.memRead x := rfl
@[simp] theorem setB_memRead (v) (x : Word) : (s.setB v).memRead x = s.memRead x := rfl
@[simp] theorem setC_memRead (v) (x : Word) : (s.setC v).memRead x = s.memRead x := rfl
@[simp] theorem setD_memRead (v) (x : Word) : (s.setD v).memRead x = s.memRead x := rfl
@[simp] theorem setE_memRead (v) (x : Word) : (s.setE v).memRead x = s.memRead x := rfl
@[simp] theorem setH_memRead (v) (x : Word) : (s.setH v).memRead x = s.memRead x := rfl
@[simp] theorem setL_memRead (v) (x : Word) : (s.setL v).memRead x = s.memRead x := rfl
@[simp] theorem setFlags_memRead (v) (x : Word) : (s.setFlags v).memRead x = s.memRead x := rfl
@[simp] theorem setSp_memRead (v) (x : Word) : (s.setSp v).memRead x = s.memRead x := rfl
@[simp] theorem setPc_memRead (v) (x : Word) : (s.setPc v).memRead x = s.memRead x := rfl
@[simp] theorem setHalted_memRead (v) (x : Word) : (s.setHalted v).memRead x = s.memRead x := rfl
@[simp] theorem setStopped_memRead (v) (x : Word) : (s.setStopped v).memRead x = s.memRead x := rfl
@[simp] theorem setFault_memRead (v) (x : Word) : (s.setFault v).memRead x = s.memRead x := rfl
@[simp] theorem setCycles_memRead (v) (x : Word) : (s.setCycles v).memRead x = s.memRead x := rfl
@[simp] theorem setIme_memRead (v) (x : Word) : (s.setIme v).memRead x = s.memRead x := rfl
@[simp] theorem setImeDelay_memRead (v) (x : Word) : (s.setImeDelay v).memRead x = s.memRead x := rfl
@[simp] theorem setPendingOverflow_memRead (v) (x : Word) : (s.setPendingOverflow v).memRead x = s.memRead x := rfl
@[simp] theorem setLcdMode_memRead (v) (x : Word) : (s.setLcdMode v).memRead x = s.memRead x := rfl
@[simp] theorem setLcdAcc_memRead (v) (x : Word) : (s.setLcdAcc v).memRead x = s.memRead x := rfl
@[simp] theorem setBack_memRead (v) (x : Word) : (s.setBack v).memRead x = s.memRead x := rfl
@[simp] theorem setFrame_memRead (v) (x : Word) : (s.setFrame v).memRead x = s.memRead x := rfl
@[simp] theorem setFrameReady_memRead (v) (x : Word) : (s.setFrameReady v).memRead x = s.memRead x := rfl
@[simp] theorem setLastSample_memRead (v) (x : Word) : (s.setLastSample v).memRead x = s.memRead x := rfl

@[simp] theorem setA_readAt (v) (x : Nat) : (s.setA v).readAt x = s.readAt x := rfl
@[simp] theorem setB_readAt (v) (x : Nat) : (s.setB v).readAt x = s.readAt x := rfl
@[simp] theorem setC_readAt (v) (x : Nat) : (s.setC v).readAt x = s.readAt x := rfl
@[simp] theorem setD_readAt (v) (x : Nat) : (s.setD v).readAt x = s.readAt x := rfl
@[simp] theorem setE_readAt (v) (x : Nat) : (s.setE v).readAt x = s.readAt x := rfl
@[simp] theorem setH_readAt (v) (x : Nat) : (s.setH v).readAt x = s.readAt x := rfl
@[simp] theorem setL_readAt (v) (x : Nat) : (s.setL v).readAt x = s.readAt x := rfl
@[simp] theorem setFlags_readAt (v) (x : Nat) : (s.setFlags v).readAt x = s.readAt x := rfl
@[simp] theorem setSp_readAt (v) (x : Nat) : (s.setSp v).readAt x = s.readAt x := rfl
@[simp] theorem setPc_readAt (v) (x : Nat) : (s.setPc v).readAt x = s.readAt x := rfl
@[simp] theorem setHalted_readAt (v) (x : Nat) : (s.setHalted v).readAt x = s.readAt x := rfl
@[simp] theorem setStopped_readAt (v) (x : Nat) : (s.setStopped v).readAt x = s.readAt x := rfl
@[simp] theorem setFault_readAt (v) (x : Nat) : (s.setFault v).readAt x = s.readAt x := rfl
@[simp] theorem setCycles_readAt (v) (x : Nat) : (s.setCycles v).readAt x = s.readAt x := rfl
@[simp] theorem setIme_readAt (v) (x : Nat) : (s.setIme v).readAt x = s.readAt x := rfl
@[simp] theorem setImeDelay_readAt (v) (x : Nat) : (s.setImeDelay v).readAt x = s.readAt x := rfl
@[simp] theorem setPendingOverflow_readAt (v) (x : Nat) : (s.setPendingOverflow v).readAt x = s.readAt x := rfl
@[simp] theorem setLcdMode_readAt (v) (x : Nat) : (s.setLcdMode v).readAt x = s.readAt x := rfl
@[simp] theorem setLcdAcc_readAt (v) (x : Nat) : (s.setLcdAcc v).readAt x = s.readAt x := rfl
@[simp] theorem setBack_readAt (v) (x : Nat) : (s.setBack v).readAt x = s.readAt x := rfl
@[simp] theorem setFrame_readAt (v) (x : Nat) : (s.setFrame v).readAt x = s.readAt x := rfl
@[simp] theorem setFrameReady_readAt (v) (x : Nat) : (s.setFrameReady v).readAt x = s.readAt x := rfl
@[simp] theorem setLastSample_readAt (v) (x : Nat) : (s.setLastSample v).readAt x = s.readAt x := rfl

/-! ### The stack -/

theorem push16_eq (v : Word) : s.push16 v =
    (((s.setSp (s.sp - 1)).memWrite (s.sp - 1) (hiByte v)).setSp (s.sp - 1 - 1)).memWrite (s.sp - 1 - 1) (loByte v) := by
  simp [State.push16]

/-- A push moves `SP` down by two. -/
@[simp] theorem push16_sp (v : Word) : (s.push16 v).sp = s.sp - 2 := by
  rw [push16_eq]
  simp only [memWrite_sp, State.setSp_sp]
  rw [BitVec.sub_sub]
  rfl

@[simp] theorem push16_a (v) : (s.push16 v).a = s.a := by simp [push16_eq]
@[simp] theorem push16_b (v) : (s.push16 v).b = s.b := by simp [push16_eq]
@[simp] theorem push16_c (v) : (s.push16 v).c = s.c := by simp [push16_eq]
@[simp] theorem push16_d (v) : (s.push16 v).d = s.d := by simp [push16_eq]
@[simp] theorem push16_e (v) : (s.push16 v).e = s.e := by simp [push16_eq]
@[simp] theorem push16_h (v) : (s.push16 v).h = s.h := by simp [push16_eq]
@[simp] theorem push16_l (v) : (s.push16 v).l = s.l := by simp [push16_eq]
@[simp] theorem push16_flags (v) : (s.push16 v).flags = s.flags := by simp [push16_eq]
@[simp] theorem push16_pc (v) : (s.push16 v).pc = s.pc := by simp [push16_eq]
@[simp] theorem push16_halted (v) : (s.push16 v).halted = s.halted := by simp [push16_eq]
@[simp] theorem push16_stopped (v) : (s.push16 v).stopped = s.stopped := by simp [push16_eq]
@[simp] theorem push16_fault (v) : (s.push16 v).fault = s.fault := by simp [push16_eq]
@[simp] theorem push16_cycles (v) : (s.push16 v).cycles = s.cycles := by simp [push16_eq]
@[simp] theorem push16_ime (v) : (s.push16 v).ime = s.ime := by simp [push16_eq]
@[simp] theorem push16_imeDelay (v) : (s.push16 v).imeDelay = s.imeDelay := by simp [push16_eq]
@[simp] theorem push16_params (v) : (s.push16 v).params = s.params := by simp [push16_eq]
@[simp] theorem push16_rom (v) : (s.push16 v).rom = s.rom := by simp [push16_eq]
@[simp] theorem push16_boot (v) : (s.push16 v).boot = s.boot := by simp [push16_eq]
@[simp] theorem push16_pendingOverflow (v) : (s.push16 v).pendingOverflow = s.pendingOverflow := by simp [push16_eq]
@[simp] theorem push16_lcdMode (v) : (s.push16 v).lcdMode = s.lcdMode := by simp [push16_eq]
@[simp] theorem push16_lcdAcc (v) : (s.push16 v).lcdAcc = s.lcdAcc := by simp [push16_eq]
@[simp] theorem push16_back (v) : (s.push16 v).back = s.back := by simp [push16_eq]
@[simp] theorem push16_frame (v) : (s.push16 v).frame = s.frame := by simp [push16_eq]
@[simp] theorem push16_frameReady (v) : (s.push16 v).frameReady = s.frameReady := by simp [push16_eq]

@[simp] theorem joinBytes_toNat (h l : Byte) : (joinBytes h l).toNat = h.toNat * 256 + l.toNat := by
  refine (BitVec.toNat_append h l).trans ?_
  rw [← Nat.shiftLeft_add_eq_or_of_lt l.isLt, Nat.shiftLeft_eq]

@[simp] theorem hiByte_toNat (v : Word) : (hiByte v).toNat = v.toNat / 256 := by
  have := v.isLt
  simp only [hiByte, BitVec.extractLsb'_toNat, Nat.shiftRight_eq_div_pow]
  omega

@[simp] theorem loByte_toNat (v : Word) : (loByte v).toNat = v.toNat % 256 := by
  simp [loByte, BitVec.extractLsb'_toNat]

@[simp] theorem joinBytes_hi_lo (v : Word) : joinBytes (hiByte v) (loByte v) = v := by
  apply BitVec.eq_of_toNat_eq
  simp only [joinBytes_toNat, hiByte_toNat, loByte_toNat]
  omega

@[simp] theorem hiByte_joinBytes (h l : Byte) : hiByte (joinBytes h l) = h := by
  apply BitVec.eq_of_toNat_eq
  have := l.isLt
  simp only [joinBytes_toNat, hiByte_toNat]
  omega

@[simp] theorem loByte_joinBytes (h l : Byte) : loByte (joinBytes h l) = l := by
  apply BitVec.eq_of_toNat_eq
  have := l.isLt
  simp only [joinBytes_toNat, loByte_toNat]
  omega

end Machine
end Sys2Proof
end

