-- ==== Sys2Proof/Laws/Exec.lean ====
section
/-! SUPPORT. The forms of the instructions: 502 rows are instances of some seventy shared operations. A proof about
every instruction is a proof about every form, and a proof about the rows of one form cites that form's lemma. -/

namespace Sys2Proof
namespace Machine

/-- The forms. -/
inductive Form where
  | ldRegReg (d : Reg8) (r : Reg8)
  | ldRegImm (d : Reg8) (n : Byte)
  | ldRegMem (d : Reg8)
  | ldMemReg (r : Reg8)
  | ldMemImm (n : Byte)
  | ldAPair (p : Pair)
  | stAPair (p : Pair)
  | ldAAbs (nn : Word)
  | stAAbs (nn : Word)
  | ldAHighImm (n : Byte)
  | stAHighImm (n : Byte)
  | ldAHighC
  | stAHighC
  | stAHlInc
  | ldAHlInc
  | stAHlDec
  | ldAHlDec
  | ldPairImm (d : Reg16) (nn : Word)
  | stSpAbs (nn : Word)
  | ldSpHl
  | ldHlSp (e : Byte)
  | pushPair (p : Pair)
  | pushAf
  | popPair (p : Pair)
  | popAf
  | aluReg (op : AluOp) (r : Reg8)
  | aluMem (op : AluOp)
  | aluImm (op : AluOp) (n : Byte)
  | incReg (r : Reg8)
  | incMem
  | decReg (r : Reg8)
  | decMem
  | decimalAdjust
  | complement
  | setCarry
  | toggleCarry
  | addHl (r : Reg16)
  | incPair (r : Reg16)
  | decPair (r : Reg16)
  | addSpImm (e : Byte)
  | rotateA (op : ShiftOp)
  | shiftReg (op : ShiftOp) (r : Reg8)
  | shiftMem (op : ShiftOp)
  | bitReg (k : Octal) (r : Reg8)
  | bitMem (k : Octal)
  | resReg (k : Octal) (r : Reg8)
  | resMem (k : Octal)
  | setReg (k : Octal) (r : Reg8)
  | setMem (k : Octal)
  | jump (nn : Word)
  | jumpIf (c : Cond) (nn : Word)
  | jumpHl
  | jumpRel (e : Byte)
  | jumpRelIf (c : Cond) (e : Byte)
  | call (nn : Word)
  | callIf (c : Cond) (nn : Word)
  | ret
  | retIf (c : Cond)
  | reti
  | restart (t : Octal)
  | noOperation
  | halt
  | stop
  | disableInterrupts
  | enableInterrupts
  | prefixed
  | raiseUnimplemented (op : Byte)
  deriving DecidableEq, Repr

/-- The shared operation of a form. -/
def Form.run (f : Form) (s : State) : State :=
  match f with
  | .ldRegReg d r => s.ldRegReg d r
  | .ldRegImm d n => s.ldRegImm d n
  | .ldRegMem d => s.ldRegMem d
  | .ldMemReg r => s.ldMemReg r
  | .ldMemImm n => s.ldMemImm n
  | .ldAPair p => s.ldAPair p
  | .stAPair p => s.stAPair p
  | .ldAAbs nn => s.ldAAbs nn
  | .stAAbs nn => s.stAAbs nn
  | .ldAHighImm n => s.ldAHighImm n
  | .stAHighImm n => s.stAHighImm n
  | .ldAHighC => s.ldAHighC
  | .stAHighC => s.stAHighC
  | .stAHlInc => s.stAHlInc
  | .ldAHlInc => s.ldAHlInc
  | .stAHlDec => s.stAHlDec
  | .ldAHlDec => s.ldAHlDec
  | .ldPairImm d nn => s.ldPairImm d nn
  | .stSpAbs nn => s.stSpAbs nn
  | .ldSpHl => s.ldSpHl
  | .ldHlSp e => s.ldHlSp e
  | .pushPair p => s.pushPair p
  | .pushAf => s.pushAf
  | .popPair p => s.popPair p
  | .popAf => s.popAf
  | .aluReg op r => s.aluReg op r
  | .aluMem op => s.aluMem op
  | .aluImm op n => s.aluImm op n
  | .incReg r => s.incReg r
  | .incMem => s.incMem
  | .decReg r => s.decReg r
  | .decMem => s.decMem
  | .decimalAdjust => s.decimalAdjust
  | .complement => s.complement
  | .setCarry => s.setCarry
  | .toggleCarry => s.toggleCarry
  | .addHl r => s.addHl r
  | .incPair r => s.incPair r
  | .decPair r => s.decPair r
  | .addSpImm e => s.addSpImm e
  | .rotateA op => s.rotateA op
  | .shiftReg op r => s.shiftReg op r
  | .shiftMem op => s.shiftMem op
  | .bitReg k r => s.bitReg k r
  | .bitMem k => s.bitMem k
  | .resReg k r => s.resReg k r
  | .resMem k => s.resMem k
  | .setReg k r => s.setReg k r
  | .setMem k => s.setMem k
  | .jump nn => s.jump nn
  | .jumpIf c nn => s.jumpIf c nn
  | .jumpHl => s.jumpHl
  | .jumpRel e => s.jumpRel e
  | .jumpRelIf c e => s.jumpRelIf c e
  | .call nn => s.call nn
  | .callIf c nn => s.callIf c nn
  | .ret => s.ret
  | .retIf c => s.retIf c
  | .reti => s.reti
  | .restart t => s.restart t
  | .noOperation => s.noOperation
  | .halt => s.halt
  | .stop => s.stop
  | .disableInterrupts => s.disableInterrupts
  | .enableInterrupts => s.enableInterrupts
  | .prefixed => s.prefixed
  | .raiseUnimplemented op => s.raiseUnimplemented [op]

/-- The form of a row. -/
def formOf : Instr → Form
  | .nop => .noOperation
  | .ld_BC_nn nn => .ldPairImm .BC nn
  | .ld_mBC_A => .stAPair .BC
  | .inc_BC => .incPair .BC
  | .inc_B => .incReg .B
  | .dec_B => .decReg .B
  | .ld_B_n n => .ldRegImm .B n
  | .rlca => .rotateA .rlc
  | .ld_mnn_SP nn => .stSpAbs nn
  | .add_HL_BC => .addHl .BC
  | .ld_A_mBC => .ldAPair .BC
  | .dec_BC => .decPair .BC
  | .inc_C => .incReg .C
  | .dec_C => .decReg .C
  | .ld_C_n n => .ldRegImm .C n
  | .rrca => .rotateA .rrc
  | .stop _ => .stop
  | .ld_DE_nn nn => .ldPairImm .DE nn
  | .ld_mDE_A => .stAPair .DE
  | .inc_DE => .incPair .DE
  | .inc_D => .incReg .D
  | .dec_D => .decReg .D
  | .ld_D_n n => .ldRegImm .D n
  | .rla => .rotateA .rl
  | .jr_e e => .jumpRel e
  | .add_HL_DE => .addHl .DE
  | .ld_A_mDE => .ldAPair .DE
  | .dec_DE => .decPair .DE
  | .inc_E => .incReg .E
  | .dec_E => .decReg .E
  | .ld_E_n n => .ldRegImm .E n
  | .rra => .rotateA .rr
  | .jr_NZ_e e => .jumpRelIf .NZ e
  | .ld_HL_nn nn => .ldPairImm .HL nn
  | .ld_mHLinc_A => .stAHlInc
  | .inc_HL => .incPair .HL
  | .inc_H => .incReg .H
  | .dec_H => .decReg .H
  | .ld_H_n n => .ldRegImm .H n
  | .daa => .decimalAdjust
  | .jr_Z_e e => .jumpRelIf .Z e
  | .add_HL_HL => .addHl .HL
  | .ld_A_mHLinc => .ldAHlInc
  | .dec_HL => .decPair .HL
  | .inc_L => .incReg .L
  | .dec_L => .decReg .L
  | .ld_L_n n => .ldRegImm .L n
  | .cpl => .complement
  | .jr_NC_e e => .jumpRelIf .NC e
  | .ld_SP_nn nn => .ldPairImm .SP nn
  | .ld_mHLdec_A => .stAHlDec
  | .inc_SP => .incPair .SP
  | .inc_mHL => .incMem
  | .dec_mHL => .decMem
  | .ld_mHL_n n => .ldMemImm n
  | .scf => .setCarry
  | .jr_C_e e => .jumpRelIf .C e
  | .add_HL_SP => .addHl .SP
  | .ld_A_mHLdec => .ldAHlDec
  | .dec_SP => .decPair .SP
  | .inc_A => .incReg .A
  | .dec_A => .decReg .A
  | .ld_A_n n => .ldRegImm .A n
  | .ccf => .toggleCarry
  | .ld_B_B => .ldRegReg .B .B
  | .ld_B_C => .ldRegReg .B .C
  | .ld_B_D => .ldRegReg .B .D
  | .ld_B_E => .ldRegReg .B .E
  | .ld_B_H => .ldRegReg .B .H
  | .ld_B_L => .ldRegReg .B .L
  | .ld_B_mHL => .ldRegMem .B
  | .ld_B_A => .ldRegReg .B .A
  | .ld_C_B => .ldRegReg .C .B
  | .ld_C_C => .ldRegReg .C .C
  | .ld_C_D => .ldRegReg .C .D
  | .ld_C_E => .ldRegReg .C .E
  | .ld_C_H => .ldRegReg .C .H
  | .ld_C_L => .ldRegReg .C .L
  | .ld_C_mHL => .ldRegMem .C
  | .ld_C_A => .ldRegReg .C .A
  | .ld_D_B => .ldRegReg .D .B
  | .ld_D_C => .ldRegReg .D .C
  | .ld_D_D => .ldRegReg .D .D
  | .ld_D_E => .ldRegReg .D .E
  | .ld_D_H => .ldRegReg .D .H
  | .ld_D_L => .ldRegReg .D .L
  | .ld_D_mHL => .ldRegMem .D
  | .ld_D_A => .ldRegReg .D .A
  | .ld_E_B => .ldRegReg .E .B
  | .ld_E_C => .ldRegReg .E .C
  | .ld_E_D => .ldRegReg .E .D
  | .ld_E_E => .ldRegReg .E .E
  | .ld_E_H => .ldRegReg .E .H
  | .ld_E_L => .ldRegReg .E .L
  | .ld_E_mHL => .ldRegMem .E
  | .ld_E_A => .ldRegReg .E .A
  | .ld_H_B => .ldRegReg .H .B
  | .ld_H_C => .ldRegReg .H .C
  | .ld_H_D => .ldRegReg .H .D
  | .ld_H_E => .ldRegReg .H .E
  | .ld_H_H => .ldRegReg .H .H
  | .ld_H_L => .ldRegReg .H .L
  | .ld_H_mHL => .ldRegMem .H
  | .ld_H_A => .ldRegReg .H .A
  | .ld_L_B => .ldRegReg .L .B
  | .ld_L_C => .ldRegReg .L .C
  | .ld_L_D => .ldRegReg .L .D
  | .ld_L_E => .ldRegReg .L .E
  | .ld_L_H => .ldRegReg .L .H
  | .ld_L_L => .ldRegReg .L .L
  | .ld_L_mHL => .ldRegMem .L
  | .ld_L_A => .ldRegReg .L .A
  | .ld_mHL_B => .ldMemReg .B
  | .ld_mHL_C => .ldMemReg .C
  | .ld_mHL_D => .ldMemReg .D
  | .ld_mHL_E => .ldMemReg .E
  | .ld_mHL_H => .ldMemReg .H
  | .ld_mHL_L => .ldMemReg .L
  | .halt => .halt
  | .ld_mHL_A => .ldMemReg .A
  | .ld_A_B => .ldRegReg .A .B
  | .ld_A_C => .ldRegReg .A .C
  | .ld_A_D => .ldRegReg .A .D
  | .ld_A_E => .ldRegReg .A .E
  | .ld_A_H => .ldRegReg .A .H
  | .ld_A_L => .ldRegReg .A .L
  | .ld_A_mHL => .ldRegMem .A
  | .ld_A_A => .ldRegReg .A .A
  | .add_A_B => .aluReg .add .B
  | .add_A_C => .aluReg .add .C
  | .add_A_D => .aluReg .add .D
  | .add_A_E => .aluReg .add .E
  | .add_A_H => .aluReg .add .H
  | .add_A_L => .aluReg .add .L
  | .add_A_mHL => .aluMem .add
  | .add_A_A => .aluReg .add .A
  | .adc_A_B => .aluReg .adc .B
  | .adc_A_C => .aluReg .adc .C
  | .adc_A_D => .aluReg .adc .D
  | .adc_A_E => .aluReg .adc .E
  | .adc_A_H => .aluReg .adc .H
  | .adc_A_L => .aluReg .adc .L
  | .adc_A_mHL => .aluMem .adc
  | .adc_A_A => .aluReg .adc .A
  | .sub_B => .aluReg .sub .B
  | .sub_C => .aluReg .sub .C
  | .sub_D => .aluReg .sub .D
  | .sub_E => .aluReg .sub .E
  | .sub_H => .aluReg .sub .H
  | .sub_L => .aluReg .sub .L
  | .sub_mHL => .aluMem .sub
  | .sub_A => .aluReg .sub .A
  | .sbc_A_B => .aluReg .sbc .B
  | .sbc_A_C => .aluReg .sbc .C
  | .sbc_A_D => .aluReg .sbc .D
  | .sbc_A_E => .aluReg .sbc .E
  | .sbc_A_H => .aluReg .sbc .H
  | .sbc_A_L => .aluReg .sbc .L
  | .sbc_A_mHL => .aluMem .sbc
  | .sbc_A_A => .aluReg .sbc .A
  | .and_B => .aluReg .and .B
  | .and_C => .aluReg .and .C
  | .and_D => .aluReg .and .D
  | .and_E => .aluReg .and .E
  | .and_H => .aluReg .and .H
  | .and_L => .aluReg .and .L
  | .and_mHL => .aluMem .and
  | .and_A => .aluReg .and .A
  | .xor_B => .aluReg .xor .B
  | .xor_C => .aluReg .xor .C
  | .xor_D => .aluReg .xor .D
  | .xor_E => .aluReg .xor .E
  | .xor_H => .aluReg .xor .H
  | .xor_L => .aluReg .xor .L
  | .xor_mHL => .aluMem .xor
  | .xor_A => .aluReg .xor .A
  | .or_B => .aluReg .or .B
  | .or_C => .aluReg .or .C
  | .or_D => .aluReg .or .D
  | .or_E => .aluReg .or .E
  | .or_H => .aluReg .or .H
  | .or_L => .aluReg .or .L
  | .or_mHL => .aluMem .or
  | .or_A => .aluReg .or .A
  | .cp_B => .aluReg .cp .B
  | .cp_C => .aluReg .cp .C
  | .cp_D => .aluReg .cp .D
  | .cp_E => .aluReg .cp .E
  | .cp_H => .aluReg .cp .H
  | .cp_L => .aluReg .cp .L
  | .cp_mHL => .aluMem .cp
  | .cp_A => .aluReg .cp .A
  | .ret_NZ => .retIf .NZ
  | .pop_BC => .popPair .BC
  | .jp_NZ_nn nn => .jumpIf .NZ nn
  | .jp_nn nn => .jump nn
  | .call_NZ_nn nn => .callIf .NZ nn
  | .push_BC => .pushPair .BC
  | .add_A_n n => .aluImm .add n
  | .rst_00H => .restart .o0
  | .ret_Z => .retIf .Z
  | .ret => .ret
  | .jp_Z_nn nn => .jumpIf .Z nn
  | .call_Z_nn nn => .callIf .Z nn
  | .call_nn nn => .call nn
  | .adc_A_n n => .aluImm .adc n
  | .rst_08H => .restart .o1
  | .ret_NC => .retIf .NC
  | .pop_DE => .popPair .DE
  | .jp_NC_nn nn => .jumpIf .NC nn
  | .undefined op => .raiseUnimplemented op
  | .call_NC_nn nn => .callIf .NC nn
  | .push_DE => .pushPair .DE
  | .sub_n n => .aluImm .sub n
  | .rst_10H => .restart .o2
  | .ret_C => .retIf .C
  | .reti => .reti
  | .jp_C_nn nn => .jumpIf .C nn
  | .call_C_nn nn => .callIf .C nn
  | .sbc_A_n n => .aluImm .sbc n
  | .rst_18H => .restart .o3
  | .ldh_mn_A n => .stAHighImm n
  | .pop_HL => .popPair .HL
  | .ld_mC_A => .stAHighC
  | .push_HL => .pushPair .HL
  | .and_n n => .aluImm .and n
  | .rst_20H => .restart .o4
  | .add_SP_e e => .addSpImm e
  | .jp_HL => .jumpHl
  | .ld_mnn_A nn => .stAAbs nn
  | .xor_n n => .aluImm .xor n
  | .rst_28H => .restart .o5
  | .ldh_A_mn n => .ldAHighImm n
  | .pop_AF => .popAf
  | .ld_A_mC => .ldAHighC
  | .di => .disableInterrupts
  | .push_AF => .pushAf
  | .or_n n => .aluImm .or n
  | .rst_30H => .restart .o6
  | .ld_HL_SPe e => .ldHlSp e
  | .ld_SP_HL => .ldSpHl
  | .ld_A_mnn nn => .ldAAbs nn
  | .ei => .enableInterrupts
  | .cp_n n => .aluImm .cp n
  | .rst_38H => .restart .o7
  | .rlc_B => .shiftReg .rlc .B
  | .rlc_C => .shiftReg .rlc .C
  | .rlc_D => .shiftReg .rlc .D
  | .rlc_E => .shiftReg .rlc .E
  | .rlc_H => .shiftReg .rlc .H
  | .rlc_L => .shiftReg .rlc .L
  | .rlc_mHL => .shiftMem .rlc
  | .rlc_A => .shiftReg .rlc .A
  | .rrc_B => .shiftReg .rrc .B
  | .rrc_C => .shiftReg .rrc .C
  | .rrc_D => .shiftReg .rrc .D
  | .rrc_E => .shiftReg .rrc .E
  | .rrc_H => .shiftReg .rrc .H
  | .rrc_L => .shiftReg .rrc .L
  | .rrc_mHL => .shiftMem .rrc
  | .rrc_A => .shiftReg .rrc .A
  | .rl_B => .shiftReg .rl .B
  | .rl_C => .shiftReg .rl .C
  | .rl_D => .shiftReg .rl .D
  | .rl_E => .shiftReg .rl .E
  | .rl_H => .shiftReg .rl .H
  | .rl_L => .shiftReg .rl .L
  | .rl_mHL => .shiftMem .rl
  | .rl_A => .shiftReg .rl .A
  | .rr_B => .shiftReg .rr .B
  | .rr_C => .shiftReg .rr .C
  | .rr_D => .shiftReg .rr .D
  | .rr_E => .shiftReg .rr .E
  | .rr_H => .shiftReg .rr .H
  | .rr_L => .shiftReg .rr .L
  | .rr_mHL => .shiftMem .rr
  | .rr_A => .shiftReg .rr .A
  | .sla_B => .shiftReg .sla .B
  | .sla_C => .shiftReg .sla .C
  | .sla_D => .shiftReg .sla .D
  | .sla_E => .shiftReg .sla .E
  | .sla_H => .shiftReg .sla .H
  | .sla_L => .shiftReg .sla .L
  | .sla_mHL => .shiftMem .sla
  | .sla_A => .shiftReg .sla .A
  | .sra_B => .shiftReg .sra .B
  | .sra_C => .shiftReg .sra .C
  | .sra_D => .shiftReg .sra .D
  | .sra_E => .shiftReg .sra .E
  | .sra_H => .shiftReg .sra .H
  | .sra_L => .shiftReg .sra .L
  | .sra_mHL => .shiftMem .sra
  | .sra_A => .shiftReg .sra .A
  | .swap_B => .shiftReg .swap .B
  | .swap_C => .shiftReg .swap .C
  | .swap_D => .shiftReg .swap .D
  | .swap_E => .shiftReg .swap .E
  | .swap_H => .shiftReg .swap .H
  | .swap_L => .shiftReg .swap .L
  | .swap_mHL => .shiftMem .swap
  | .swap_A => .shiftReg .swap .A
  | .srl_B => .shiftReg .srl .B
  | .srl_C => .shiftReg .srl .C
  | .srl_D => .shiftReg .srl .D
  | .srl_E => .shiftReg .srl .E
  | .srl_H => .shiftReg .srl .H
  | .srl_L => .shiftReg .srl .L
  | .srl_mHL => .shiftMem .srl
  | .srl_A => .shiftReg .srl .A
  | .bit_0_B => .bitReg .o0 .B
  | .bit_0_C => .bitReg .o0 .C
  | .bit_0_D => .bitReg .o0 .D
  | .bit_0_E => .bitReg .o0 .E
  | .bit_0_H => .bitReg .o0 .H
  | .bit_0_L => .bitReg .o0 .L
  | .bit_0_mHL => .bitMem .o0
  | .bit_0_A => .bitReg .o0 .A
  | .bit_1_B => .bitReg .o1 .B
  | .bit_1_C => .bitReg .o1 .C
  | .bit_1_D => .bitReg .o1 .D
  | .bit_1_E => .bitReg .o1 .E
  | .bit_1_H => .bitReg .o1 .H
  | .bit_1_L => .bitReg .o1 .L
  | .bit_1_mHL => .bitMem .o1
  | .bit_1_A => .bitReg .o1 .A
  | .bit_2_B => .bitReg .o2 .B
  | .bit_2_C => .bitReg .o2 .C
  | .bit_2_D => .bitReg .o2 .D
  | .bit_2_E => .bitReg .o2 .E
  | .bit_2_H => .bitReg .o2 .H
  | .bit_2_L => .bitReg .o2 .L
  | .bit_2_mHL => .bitMem .o2
  | .bit_2_A => .bitReg .o2 .A
  | .bit_3_B => .bitReg .o3 .B
  | .bit_3_C => .bitReg .o3 .C
  | .bit_3_D => .bitReg .o3 .D
  | .bit_3_E => .bitReg .o3 .E
  | .bit_3_H => .bitReg .o3 .H
  | .bit_3_L => .bitReg .o3 .L
  | .bit_3_mHL => .bitMem .o3
  | .bit_3_A => .bitReg .o3 .A
  | .bit_4_B => .bitReg .o4 .B
  | .bit_4_C => .bitReg .o4 .C
  | .bit_4_D => .bitReg .o4 .D
  | .bit_4_E => .bitReg .o4 .E
  | .bit_4_H => .bitReg .o4 .H
  | .bit_4_L => .bitReg .o4 .L
  | .bit_4_mHL => .bitMem .o4
  | .bit_4_A => .bitReg .o4 .A
  | .bit_5_B => .bitReg .o5 .B
  | .bit_5_C => .bitReg .o5 .C
  | .bit_5_D => .bitReg .o5 .D
  | .bit_5_E => .bitReg .o5 .E
  | .bit_5_H => .bitReg .o5 .H
  | .bit_5_L => .bitReg .o5 .L
  | .bit_5_mHL => .bitMem .o5
  | .bit_5_A => .bitReg .o5 .A
  | .bit_6_B => .bitReg .o6 .B
  | .bit_6_C => .bitReg .o6 .C
  | .bit_6_D => .bitReg .o6 .D
  | .bit_6_E => .bitReg .o6 .E
  | .bit_6_H => .bitReg .o6 .H
  | .bit_6_L => .bitReg .o6 .L
  | .bit_6_mHL => .bitMem .o6
  | .bit_6_A => .bitReg .o6 .A
  | .bit_7_B => .bitReg .o7 .B
  | .bit_7_C => .bitReg .o7 .C
  | .bit_7_D => .bitReg .o7 .D
  | .bit_7_E => .bitReg .o7 .E
  | .bit_7_H => .bitReg .o7 .H
  | .bit_7_L => .bitReg .o7 .L
  | .bit_7_mHL => .bitMem .o7
  | .bit_7_A => .bitReg .o7 .A
  | .res_0_B => .resReg .o0 .B
  | .res_0_C => .resReg .o0 .C
  | .res_0_D => .resReg .o0 .D
  | .res_0_E => .resReg .o0 .E
  | .res_0_H => .resReg .o0 .H
  | .res_0_L => .resReg .o0 .L
  | .res_0_mHL => .resMem .o0
  | .res_0_A => .resReg .o0 .A
  | .res_1_B => .resReg .o1 .B
  | .res_1_C => .resReg .o1 .C
  | .res_1_D => .resReg .o1 .D
  | .res_1_E => .resReg .o1 .E
  | .res_1_H => .resReg .o1 .H
  | .res_1_L => .resReg .o1 .L
  | .res_1_mHL => .resMem .o1
  | .res_1_A => .resReg .o1 .A
  | .res_2_B => .resReg .o2 .B
  | .res_2_C => .resReg .o2 .C
  | .res_2_D => .resReg .o2 .D
  | .res_2_E => .resReg .o2 .E
  | .res_2_H => .resReg .o2 .H
  | .res_2_L => .resReg .o2 .L
  | .res_2_mHL => .resMem .o2
  | .res_2_A => .resReg .o2 .A
  | .res_3_B => .resReg .o3 .B
  | .res_3_C => .resReg .o3 .C
  | .res_3_D => .resReg .o3 .D
  | .res_3_E => .resReg .o3 .E
  | .res_3_H => .resReg .o3 .H
  | .res_3_L => .resReg .o3 .L
  | .res_3_mHL => .resMem .o3
  | .res_3_A => .resReg .o3 .A
  | .res_4_B => .resReg .o4 .B
  | .res_4_C => .resReg .o4 .C
  | .res_4_D => .resReg .o4 .D
  | .res_4_E => .resReg .o4 .E
  | .res_4_H => .resReg .o4 .H
  | .res_4_L => .resReg .o4 .L
  | .res_4_mHL => .resMem .o4
  | .res_4_A => .resReg .o4 .A
  | .res_5_B => .resReg .o5 .B
  | .res_5_C => .resReg .o5 .C
  | .res_5_D => .resReg .o5 .D
  | .res_5_E => .resReg .o5 .E
  | .res_5_H => .resReg .o5 .H
  | .res_5_L => .resReg .o5 .L
  | .res_5_mHL => .resMem .o5
  | .res_5_A => .resReg .o5 .A
  | .res_6_B => .resReg .o6 .B
  | .res_6_C => .resReg .o6 .C
  | .res_6_D => .resReg .o6 .D
  | .res_6_E => .resReg .o6 .E
  | .res_6_H => .resReg .o6 .H
  | .res_6_L => .resReg .o6 .L
  | .res_6_mHL => .resMem .o6
  | .res_6_A => .resReg .o6 .A
  | .res_7_B => .resReg .o7 .B
  | .res_7_C => .resReg .o7 .C
  | .res_7_D => .resReg .o7 .D
  | .res_7_E => .resReg .o7 .E
  | .res_7_H => .resReg .o7 .H
  | .res_7_L => .resReg .o7 .L
  | .res_7_mHL => .resMem .o7
  | .res_7_A => .resReg .o7 .A
  | .set_0_B => .setReg .o0 .B
  | .set_0_C => .setReg .o0 .C
  | .set_0_D => .setReg .o0 .D
  | .set_0_E => .setReg .o0 .E
  | .set_0_H => .setReg .o0 .H
  | .set_0_L => .setReg .o0 .L
  | .set_0_mHL => .setMem .o0
  | .set_0_A => .setReg .o0 .A
  | .set_1_B => .setReg .o1 .B
  | .set_1_C => .setReg .o1 .C
  | .set_1_D => .setReg .o1 .D
  | .set_1_E => .setReg .o1 .E
  | .set_1_H => .setReg .o1 .H
  | .set_1_L => .setReg .o1 .L
  | .set_1_mHL => .setMem .o1
  | .set_1_A => .setReg .o1 .A
  | .set_2_B => .setReg .o2 .B
  | .set_2_C => .setReg .o2 .C
  | .set_2_D => .setReg .o2 .D
  | .set_2_E => .setReg .o2 .E
  | .set_2_H => .setReg .o2 .H
  | .set_2_L => .setReg .o2 .L
  | .set_2_mHL => .setMem .o2
  | .set_2_A => .setReg .o2 .A
  | .set_3_B => .setReg .o3 .B
  | .set_3_C => .setReg .o3 .C
  | .set_3_D => .setReg .o3 .D
  | .set_3_E => .setReg .o3 .E
  | .set_3_H => .setReg .o3 .H
  | .set_3_L => .setReg .o3 .L
  | .set_3_mHL => .setMem .o3
  | .set_3_A => .setReg .o3 .A
  | .set_4_B => .setReg .o4 .B
  | .set_4_C => .setReg .o4 .C
  | .set_4_D => .setReg .o4 .D
  | .set_4_E => .setReg .o4 .E
  | .set_4_H => .setReg .o4 .H
  | .set_4_L => .setReg .o4 .L
  | .set_4_mHL => .setMem .o4
  | .set_4_A => .setReg .o4 .A
  | .set_5_B => .setReg .o5 .B
  | .set_5_C => .setReg .o5 .C
  | .set_5_D => .setReg .o5 .D
  | .set_5_E => .setReg .o5 .E
  | .set_5_H => .setReg .o5 .H
  | .set_5_L => .setReg .o5 .L
  | .set_5_mHL => .setMem .o5
  | .set_5_A => .setReg .o5 .A
  | .set_6_B => .setReg .o6 .B
  | .set_6_C => .setReg .o6 .C
  | .set_6_D => .setReg .o6 .D
  | .set_6_E => .setReg .o6 .E
  | .set_6_H => .setReg .o6 .H
  | .set_6_L => .setReg .o6 .L
  | .set_6_mHL => .setMem .o6
  | .set_6_A => .setReg .o6 .A
  | .set_7_B => .setReg .o7 .B
  | .set_7_C => .setReg .o7 .C
  | .set_7_D => .setReg .o7 .D
  | .set_7_E => .setReg .o7 .E
  | .set_7_H => .setReg .o7 .H
  | .set_7_L => .setReg .o7 .L
  | .set_7_mHL => .setMem .o7
  | .set_7_A => .setReg .o7 .A
  | .prefixCB => .prefixed

/-- Every instruction answers a next state, the one its form gives. -/
theorem exec_form (i : Instr) (s : State) : exec i s = .next ((formOf i).run s) := by
  cases i <;> rfl

/-! ### The rows of a form -/

theorem exec_rowLdRegReg (x : Reg8) (y : Reg8) (s : State) : exec (rowLdRegReg x y) s = .next (s.ldRegReg x y) := by
  cases x <;> cases y <;> rfl

theorem exec_rowLdRegImm (x : Reg8) (y : Byte) (s : State) : exec (rowLdRegImm x y) s = .next (s.ldRegImm x y) := by
  cases x <;> rfl

theorem exec_rowLdRegMem (x : Reg8) (s : State) : exec (rowLdRegMem x) s = .next (s.ldRegMem x) := by
  cases x <;> rfl

theorem exec_rowLdMemReg (x : Reg8) (s : State) : exec (rowLdMemReg x) s = .next (s.ldMemReg x) := by
  cases x <;> rfl

theorem exec_rowLdPairImm (x : Reg16) (y : Word) (s : State) : exec (rowLdPairImm x y) s = .next (s.ldPairImm x y) := by
  cases x <;> rfl

theorem exec_rowPush (x : Pair) (s : State) : exec (rowPush x) s = .next (s.pushPair x) := by
  cases x <;> rfl

theorem exec_rowPop (x : Pair) (s : State) : exec (rowPop x) s = .next (s.popPair x) := by
  cases x <;> rfl

theorem exec_rowAluReg (x : AluOp) (y : Reg8) (s : State) : exec (rowAluReg x y) s = .next (s.aluReg x y) := by
  cases x <;> cases y <;> rfl

theorem exec_rowAluMem (x : AluOp) (s : State) : exec (rowAluMem x) s = .next (s.aluMem x) := by
  cases x <;> rfl

theorem exec_rowAluImm (x : AluOp) (y : Byte) (s : State) : exec (rowAluImm x y) s = .next (s.aluImm x y) := by
  cases x <;> rfl

theorem exec_rowIncReg (x : Reg8) (s : State) : exec (rowIncReg x) s = .next (s.incReg x) := by
  cases x <;> rfl

theorem exec_rowDecReg (x : Reg8) (s : State) : exec (rowDecReg x) s = .next (s.decReg x) := by
  cases x <;> rfl

theorem exec_rowAddHl (x : Reg16) (s : State) : exec (rowAddHl x) s = .next (s.addHl x) := by
  cases x <;> rfl

theorem exec_rowIncPair (x : Reg16) (s : State) : exec (rowIncPair x) s = .next (s.incPair x) := by
  cases x <;> rfl

theorem exec_rowDecPair (x : Reg16) (s : State) : exec (rowDecPair x) s = .next (s.decPair x) := by
  cases x <;> rfl

theorem exec_rowShiftReg (x : ShiftOp) (y : Reg8) (s : State) : exec (rowShiftReg x y) s = .next (s.shiftReg x y) := by
  cases x <;> cases y <;> rfl

theorem exec_rowShiftMem (x : ShiftOp) (s : State) : exec (rowShiftMem x) s = .next (s.shiftMem x) := by
  cases x <;> rfl

theorem exec_rowBitReg (x : Octal) (y : Reg8) (s : State) : exec (rowBitReg x y) s = .next (s.bitReg x y) := by
  cases x <;> cases y <;> rfl

theorem exec_rowBitMem (x : Octal) (s : State) : exec (rowBitMem x) s = .next (s.bitMem x) := by
  cases x <;> rfl

theorem exec_rowResReg (x : Octal) (y : Reg8) (s : State) : exec (rowResReg x y) s = .next (s.resReg x y) := by
  cases x <;> cases y <;> rfl

theorem exec_rowResMem (x : Octal) (s : State) : exec (rowResMem x) s = .next (s.resMem x) := by
  cases x <;> rfl

theorem exec_rowSetReg (x : Octal) (y : Reg8) (s : State) : exec (rowSetReg x y) s = .next (s.setReg x y) := by
  cases x <;> cases y <;> rfl

theorem exec_rowSetMem (x : Octal) (s : State) : exec (rowSetMem x) s = .next (s.setMem x) := by
  cases x <;> rfl

theorem exec_rowJpCond (x : Cond) (y : Word) (s : State) : exec (rowJpCond x y) s = .next (s.jumpIf x y) := by
  cases x <;> rfl

theorem exec_rowJrCond (x : Cond) (y : Byte) (s : State) : exec (rowJrCond x y) s = .next (s.jumpRelIf x y) := by
  cases x <;> rfl

theorem exec_rowCallCond (x : Cond) (y : Word) (s : State) : exec (rowCallCond x y) s = .next (s.callIf x y) := by
  cases x <;> rfl

theorem exec_rowRetCond (x : Cond) (s : State) : exec (rowRetCond x) s = .next (s.retIf x) := by
  cases x <;> rfl

theorem exec_rowRst (x : Octal) (s : State) : exec (rowRst x) s = .next (s.restart x) := by
  cases x <;> rfl

/-! ### What an instruction can do to the machine around the CPU -/

/-- The states agree on everything outside the CPU: memory, parameters, images, latches, timer and display. -/
def SameMachine (s t : State) : Prop :=
  t.raw = s.raw ∧ t.bootActive = s.bootActive ∧ t.cartBank = s.cartBank ∧ t.rom = s.rom ∧ t.boot = s.boot
    ∧ t.lastSample = s.lastSample ∧ t.pendingOverflow = s.pendingOverflow ∧ t.lcdMode = s.lcdMode
    ∧ t.lcdAcc = s.lcdAcc ∧ t.back = s.back ∧ t.frame = s.frame ∧ t.frameReady = s.frameReady
    ∧ t.params = s.params

/-- `t` comes from `s` by changes inside the CPU and mapped writes. -/
inductive Evolves (s : State) : State → Prop where
  | refl : Evolves s s
  | cpu {t u : State} (h : Evolves s t) (e : SameMachine t u) : Evolves s u
  | store {t : State} (h : Evolves s t) (a : Word) (v : Byte) : Evolves s (t.memWrite a v)

theorem Evolves.of_same {s t : State} (e : SameMachine s t) : Evolves s t := .cpu .refl e

theorem Evolves.trans {s t u : State} (h1 : Evolves s t) (h2 : Evolves t u) : Evolves s u := by
  induction h2 with
  | refl => exact h1
  | cpu _ e ih => exact .cpu ih e
  | store _ a v ih => exact .store ih a v

theorem Evolves.setA {s t : State} (h : Evolves s t) (v) : Evolves s (t.setA v) :=
  .cpu h ⟨rfl, rfl, rfl, rfl, rfl, rfl, rfl, rfl, rfl, rfl, rfl, rfl, rfl⟩

theorem Evolves.setB {s t : State} (h : Evolves s t) (v) : Evolves s (t.setB v) :=
  .cpu h ⟨rfl, rfl, rfl, rfl, rfl, rfl, rfl, rfl, rfl, rfl, rfl, rfl, rfl⟩

theorem Evolves.setC {s t : State} (h : Evolves s t) (v) : Evolves s (t.setC v) :=
  .cpu h ⟨rfl, rfl, rfl, rfl, rfl, rfl, rfl, rfl, rfl, rfl, rfl, rfl, rfl⟩

theorem Evolves.setD {s t : State} (h : Evolves s t) (v) : Evolves s (t.setD v) :=
  .cpu h ⟨rfl, rfl, rfl, rfl, rfl, rfl, rfl, rfl, rfl, rfl, rfl, rfl, rfl⟩

theorem Evolves.setE {s t : State} (h : Evolves s t) (v) : Evolves s (t.setE v) :=
  .cpu h ⟨rfl, rfl, rfl, rfl, rfl, rfl, rfl, rfl, rfl, rfl, rfl, rfl, rfl⟩

theorem Evolves.setH {s t : State} (h : Evolves s t) (v) : Evolves s (t.setH v) :=
  .cpu h ⟨rfl, rfl, rfl, rfl, rfl, rfl, rfl, rfl, rfl, rfl, rfl, rfl, rfl⟩

theorem Evolves.setL {s t : State} (h : Evolves s t) (v) : Evolves s (t.setL v) :=
  .cpu h ⟨rfl, rfl, rfl, rfl, rfl, rfl, rfl, rfl, rfl, rfl, rfl, rfl, rfl⟩

theorem Evolves.setFlags {s t : State} (h : Evolves s t) (v) : Evolves s (t.setFlags v) :=
  .cpu h ⟨rfl, rfl, rfl, rfl, rfl, rfl, rfl, rfl, rfl, rfl, rfl, rfl, rfl⟩

theorem Evolves.setSp {s t : State} (h : Evolves s t) (v) : Evolves s (t.setSp v) :=
  .cpu h ⟨rfl, rfl, rfl, rfl, rfl, rfl, rfl, rfl, rfl, rfl, rfl, rfl, rfl⟩

theorem Evolves.setPc {s t : State} (h : Evolves s t) (v) : Evolves s (t.setPc v) :=
  .cpu h ⟨rfl, rfl, rfl, rfl, rfl, rfl, rfl, rfl, rfl, rfl, rfl, rfl, rfl⟩

theorem Evolves.setHalted {s t : State} (h : Evolves s t) (v) : Evolves s (t.setHalted v) :=
  .cpu h ⟨rfl, rfl, rfl, rfl, rfl, rfl, rfl, rfl, rfl, rfl, rfl, rfl, rfl⟩

theorem Evolves.setStopped {s t : State} (h : Evolves s t) (v) : Evolves s (t.setStopped v) :=
  .cpu h ⟨rfl, rfl, rfl, rfl, rfl, rfl, rfl, rfl, rfl, rfl, rfl, rfl, rfl⟩

theorem Evolves.setFault {s t : State} (h : Evolves s t) (v) : Evolves s (t.setFault v) :=
  .cpu h ⟨rfl, rfl, rfl, rfl, rfl, rfl, rfl, rfl, rfl, rfl, rfl, rfl, rfl⟩

theorem Evolves.setCycles {s t : State} (h : Evolves s t) (v) : Evolves s (t.setCycles v) :=
  .cpu h ⟨rfl, rfl, rfl, rfl, rfl, rfl, rfl, rfl, rfl, rfl, rfl, rfl, rfl⟩

theorem Evolves.setIme {s t : State} (h : Evolves s t) (v) : Evolves s (t.setIme v) :=
  .cpu h ⟨rfl, rfl, rfl, rfl, rfl, rfl, rfl, rfl, rfl, rfl, rfl, rfl, rfl⟩

theorem Evolves.setImeDelay {s t : State} (h : Evolves s t) (v) : Evolves s (t.setImeDelay v) :=
  .cpu h ⟨rfl, rfl, rfl, rfl, rfl, rfl, rfl, rfl, rfl, rfl, rfl, rfl, rfl⟩

theorem Evolves.setReg8 {s t : State} (h : Evolves s t) (r : Reg8) (v : Byte) : Evolves s (t.setReg8 r v) := by
  cases r
  exacts [h.setA v, h.setB v, h.setC v, h.setD v, h.setE v, h.setH v, h.setL v]

theorem Evolves.setPair {s t : State} (h : Evolves s t) (p : Pair) (v : Word) : Evolves s (t.setPair p v) := by
  cases p
  exacts [(h.setB _).setC _, (h.setD _).setE _, (h.setH _).setL _]

theorem Evolves.setReg16 {s t : State} (h : Evolves s t) (r : Reg16) (v : Word) : Evolves s (t.setReg16 r v) := by
  cases r
  exacts [h.setPair .BC v, h.setPair .DE v, h.setPair .HL v, h.setSp v]

theorem Evolves.setAf {s t : State} (h : Evolves s t) (v : Word) : Evolves s (t.setAf v) :=
  (h.setA _).setFlags _

theorem Evolves.writeHl {s t : State} (h : Evolves s t) (v : Byte) : Evolves s (t.writeHl v) := .store h _ v

theorem Evolves.push16 {s t : State} (h : Evolves s t) (v : Word) : Evolves s (t.push16 v) := by
  rw [push16_eq]
  exact .store (.setSp (.store (.setSp h _) _ _) _) _ _

theorem Evolves.charge {s t : State} (h : Evolves s t) (n : Nat) : Evolves s (t.charge n) := h.setCycles n

/-- The operation of the extended page that a second opcode byte selects is that of the row the decoder gives. -/
theorem extended_form (s : State) (b1 : Byte) : s.extended b1 = (formOf (decodeExtended b1)).run s := by
  have h : exec (decodeExtended b1) s = .next (s.extended b1) := by
    unfold State.extended decodeExtended
    generalize fieldX b1 = x
    match x, codeReg8 (fieldZ b1) with
    | 0, some r => exact exec_rowShiftReg _ _ s
    | 0, none => exact exec_rowShiftMem _ s
    | 1, some r => exact exec_rowBitReg _ _ s
    | 1, none => exact exec_rowBitMem _ s
    | 2, some r => exact exec_rowResReg _ _ s
    | 2, none => exact exec_rowResMem _ s
    | _ + 3, some r => exact exec_rowSetReg _ _ s
    | _ + 3, none => exact exec_rowSetMem _ s
  rw [exec_form] at h
  exact (Host.Outcome.next.inj h).symm


/-- The forms but the prefix: an instruction changes the CPU and performs mapped writes, nothing else. -/
theorem evolves_form (f : Form) (s : State) (h : f ≠ .prefixed) : Evolves s (f.run s) := by
  cases f with
  | ldRegReg d r => exact (Evolves.refl.setReg8 _ _).charge _
  | ldRegImm d n => exact (Evolves.refl.setReg8 _ _).charge _
  | ldRegMem d => exact (Evolves.refl.setReg8 _ _).charge _
  | ldMemReg r => exact (Evolves.refl.writeHl _).charge _
  | ldMemImm n => exact (Evolves.refl.writeHl _).charge _
  | ldAPair p => exact (Evolves.refl.setA _).charge _
  | stAPair p => exact (Evolves.refl.store _ _).charge _
  | ldAAbs nn => exact (Evolves.refl.setA _).charge _
  | stAAbs nn => exact (Evolves.refl.store _ _).charge _
  | ldAHighImm n => exact (Evolves.refl.setA _).charge _
  | stAHighImm n => exact (Evolves.refl.store _ _).charge _
  | ldAHighC => exact (Evolves.refl.setA _).charge _
  | stAHighC => exact (Evolves.refl.store _ _).charge _
  | stAHlInc => exact ((Evolves.refl.writeHl _).setPair _ _).charge _
  | ldAHlInc => exact ((Evolves.refl.setA _).setPair _ _).charge _
  | stAHlDec => exact ((Evolves.refl.writeHl _).setPair _ _).charge _
  | ldAHlDec => exact ((Evolves.refl.setA _).setPair _ _).charge _
  | ldPairImm d nn => exact (Evolves.refl.setReg16 _ _).charge _
  | stSpAbs nn => exact ((Evolves.refl.store _ _).store _ _).charge _
  | ldSpHl => exact (Evolves.refl.setSp _).charge _
  | ldHlSp e => exact ((Evolves.refl.setPair _ _).setFlags _).charge _
  | pushPair p => exact (Evolves.refl.push16 _).charge _
  | pushAf => exact (Evolves.refl.push16 _).charge _
  | popPair p => exact ((Evolves.refl.setSp _).setPair _ _).charge _
  | popAf => exact ((Evolves.refl.setSp _).setAf _).charge _
  | aluReg op r => exact ((Evolves.refl.setA _).setFlags _).charge _
  | aluMem op => exact ((Evolves.refl.setA _).setFlags _).charge _
  | aluImm op n => exact ((Evolves.refl.setA _).setFlags _).charge _
  | incReg r => exact ((Evolves.refl.setReg8 _ _).setFlags _).charge _
  | incMem => exact ((Evolves.refl.writeHl _).setFlags _).charge _
  | decReg r => exact ((Evolves.refl.setReg8 _ _).setFlags _).charge _
  | decMem => exact ((Evolves.refl.writeHl _).setFlags _).charge _
  | decimalAdjust => exact ((Evolves.refl.setA _).setFlags _).charge _
  | complement => exact ((Evolves.refl.setA _).setFlags _).charge _
  | setCarry => exact (Evolves.refl.setFlags _).charge _
  | toggleCarry => exact (Evolves.refl.setFlags _).charge _
  | addHl r => exact ((Evolves.refl.setPair _ _).setFlags _).charge _
  | incPair r => exact (Evolves.refl.setReg16 _ _).charge _
  | decPair r => exact (Evolves.refl.setReg16 _ _).charge _
  | addSpImm e => exact ((Evolves.refl.setSp _).setFlags _).charge _
  | rotateA op => exact ((Evolves.refl.setA _).setFlags _).charge _
  | shiftReg op r => exact ((Evolves.refl.setReg8 _ _).setFlags _).charge _
  | shiftMem op => exact ((Evolves.refl.writeHl _).setFlags _).charge _
  | bitReg k r => exact (Evolves.refl.setFlags _).charge _
  | bitMem k => exact (Evolves.refl.setFlags _).charge _
  | resReg k r => exact (Evolves.refl.setReg8 _ _).charge _
  | resMem k => exact (Evolves.refl.writeHl _).charge _
  | setReg k r => exact (Evolves.refl.setReg8 _ _).charge _
  | setMem k => exact (Evolves.refl.writeHl _).charge _
  | jump nn => exact (Evolves.refl.setPc _).charge _
  | jumpIf c nn =>
    show Evolves s (s.jumpIf c nn)
    unfold State.jumpIf
    split
    · exact (Evolves.refl.setPc _).charge _
    · exact Evolves.refl.charge _
  | jumpHl => exact (Evolves.refl.setPc _).charge _
  | jumpRel e => exact (Evolves.refl.setPc _).charge _
  | jumpRelIf c e =>
    show Evolves s (s.jumpRelIf c e)
    unfold State.jumpRelIf
    split
    · exact (Evolves.refl.setPc _).charge _
    · exact Evolves.refl.charge _
  | call nn => exact ((Evolves.refl.push16 _).setPc _).charge _
  | callIf c nn =>
    show Evolves s (s.callIf c nn)
    unfold State.callIf
    split
    · exact ((Evolves.refl.push16 _).setPc _).charge _
    · exact Evolves.refl.charge _
  | ret => exact ((Evolves.refl.setSp _).setPc _).charge _
  | retIf c =>
    show Evolves s (s.retIf c)
    unfold State.retIf
    split
    · exact ((Evolves.refl.setSp _).setPc _).charge _
    · exact Evolves.refl.charge _
  | reti => exact ((((Evolves.refl.setSp _).setPc _).setIme _).setImeDelay _).charge _
  | restart t => exact ((Evolves.refl.push16 _).setPc _).charge _
  | noOperation => exact Evolves.refl.charge _
  | halt => exact (Evolves.refl.setHalted _).charge _
  | stop => exact (Evolves.refl.setStopped _).charge _
  | disableInterrupts => exact ((Evolves.refl.setIme _).setImeDelay _).charge _
  | enableInterrupts =>
    show Evolves s ((if s.imeDelay = 0 then s.setImeDelay 2 else s).charge 4)
    split
    · exact (Evolves.refl.setImeDelay _).charge _
    · exact Evolves.refl.charge _
  | prefixed => exact absurd rfl h
  | raiseUnimplemented op => exact Evolves.refl.setFault _

theorem formOf_decodeExtended_ne (b1 : Byte) : formOf (decodeExtended b1) ≠ .prefixed := by
  revert b1
  decide +kernel

/-- Every instruction changes the CPU and performs mapped writes, and nothing else. -/
theorem evolves_exec (i : Instr) (s t : State) (h : exec i s = .next t) : Evolves s t := by
  rw [exec_form] at h
  cases h
  by_cases hp : formOf i = .prefixed
  · rw [hp]
    show Evolves s (s.prefixed)
    unfold State.prefixed
    rw [extended_form]
    exact (Evolves.refl.setPc _).trans (evolves_form _ _ (formOf_decodeExtended_ne _))
  · exact evolves_form _ s hp

end Machine
end Sys2Proof
end

