-- ==== Sys2Proof/Laws/Devices.lean ====
section
/-! SUPPORT. What the mapped write, the interrupt service, the timer and the display controller keep of the
invariant of a well-formed state, part by part. -/

namespace Sys2Proof
namespace Machine

variable (s : State)

/-! ### The mapped write -/

/-- Storage is what lies above the cartridge window but the mirror and the unusable region. -/
theorem isStorage_iff (m : AddressMap) (x : Nat) : m.isStorage x = true ↔
    0x8000 ≤ x ∧ x ≤ 0xFFFF ∧ ¬ (0xE000 ≤ x ∧ x ≤ 0xFDFF) ∧ m.isUnusable x = false := by
  simp only [AddressMap.isStorage, Bool.and_eq_true, decide_eq_true_eq, Bool.not_eq_true', ← Bool.not_eq_true (isEcho x),
    isEcho_iff, and_assoc]

/-- Every named register is storage. -/
theorem isStorage_addr (m : AddressMap) (r : IoReg) : m.isStorage (m.addr r) = true := by
  have k := map_addr_range m r
  exact (isStorage_iff _ _).2 ⟨by omega, by omega, by omega, k.2.2.1⟩

/-- The sprite table is storage. -/
theorem isStorage_sprite (m : AddressMap) {i : Nat} (h : i < 160) : m.isStorage (m.spriteFirst + i) = true := by
  have k := map_sprite m (spriteFirst_add m h)
  exact (isStorage_iff _ _).2 ⟨k.1, by omega, k.2.2.1, k.2.2.2.2.1⟩

/-- What the mirror shows is storage. -/
theorem isStorage_home (m : AddressMap) {x : Nat} (h : 0xC000 ≤ x ∧ x ≤ 0xDDFF) : m.isStorage x = true := by
  refine (isStorage_iff _ _).2 ⟨by omega, by omega, by omega, ?_⟩
  rw [Bool.eq_false_iff]
  intro e
  exact (map_unusable m e).2.2.2 h

/-- The DMA copy leaves every byte outside the sprite table alone. -/
theorem dmaCopy_rawGet_other (v : Byte) (y : Nat) (h : s.params.map.bounds.spriteTable.contains y = false) :
    (s.dmaCopy v).rawGet y = s.rawGet y := by
  unfold State.dmaCopy
  have hr : ∀ i ∈ List.range Config.dmaLength, i < 160 := fun i hi => by simpa using hi
  generalize List.range Config.dmaLength = is at hr
  induction is generalizing s with
  | nil => rfl
  | cons i is ih =>
    rw [List.foldl_cons, ih (s.rawSet _ _) h (fun j hj => hr j (List.mem_cons_of_mem _ hj))]
    exact rawGet_rawSet_other _ _ _ _ (ne_spriteFirst_add _ h (hr i List.mem_cons_self))

theorem dmaCopy_rawOk (v : Byte) (h : s.rawOk = true) : (s.dmaCopy v).rawOk = true := by
  unfold State.dmaCopy
  have hr : ∀ i ∈ List.range Config.dmaLength, i < 160 := fun i hi => by simpa using hi
  generalize List.range Config.dmaLength = is at hr
  induction is generalizing s with
  | nil => exact h
  | cons i is ih =>
    exact ih _ (rawOk_rawSet s _ _ h (isStorage_sprite _ (hr i List.mem_cons_self)))
      (fun j hj => hr j (List.mem_cons_of_mem _ hj))

@[simp] theorem dmaCopy_cartBank (v : Byte) : (s.dmaCopy v).cartBank = s.cartBank := by
  unfold State.dmaCopy
  generalize List.range Config.dmaLength = is
  induction is generalizing s with
  | nil => rfl
  | cons i is ih => exact ih _

@[simp] theorem dmaCopy_params (v : Byte) : (s.dmaCopy v).params = s.params := by
  unfold State.dmaCopy
  generalize List.range Config.dmaLength = is
  induction is generalizing s with
  | nil => rfl
  | cons i is ih => exact ih _

/-- The DMA copy leaves the named registers alone. -/
@[simp] theorem dmaCopy_ioGet (v : Byte) (r : IoReg) : (s.dmaCopy v).ioGet r = s.ioGet r := by
  unfold State.ioGet State.addr
  rw [dmaCopy_params, dmaCopy_rawGet_other _ _ _ (map_addr_range _ r).2.2.2]

theorem setSyscnt_rawGet_other (v : Word) (y : Nat) (h1 : y ≠ s.params.map.addr .DIVLO) (h2 : y ≠ s.params.map.addr .DIV) :
    (s.setSyscnt v).rawGet y = s.rawGet y :=
  (rawGet_ioSet_other (s.ioSet .DIVLO (loByte v)) .DIV _ _ h2).trans (rawGet_ioSet_other _ .DIVLO _ _ h1)

/-- Writing the counter leaves the other registers alone. -/
theorem setSyscnt_ioGet_other (v : Word) (r : IoReg) (h1 : r ≠ .DIVLO) (h2 : r ≠ .DIV) :
    (s.setSyscnt v).ioGet r = s.ioGet r :=
  (ioGet_ioSet_other (s.ioSet .DIVLO (loByte v)) .DIV r _ h2).trans (ioGet_ioSet_other _ .DIVLO r _ h1)

/-- A write in the I/O region leaves every other byte outside the sprite table alone, but for the counter's two bytes,
which go together. -/
theorem ioWrite_rawGet_other (x y : Nat) (v : Byte) (hy : s.params.map.bounds.spriteTable.contains y = false)
    (hne : y ≠ x) (h3 : y ≠ s.params.map.addr .DIVLO) (h4 : y ≠ s.params.map.addr .DIV) : (s.ioWrite x v).rawGet y = s.rawGet y := by
  unfold State.ioWrite
  split
  · rw [setLastSample_rawGet, setSyscnt_rawGet_other _ _ _ h3 h4]
  split
  · simp [rawGet_rawSet_other, hne]
  split
  · simp [rawGet_rawSet_other, hne]
  split
  · rfl
  split
  · rw [dmaCopy_rawGet_other (s.rawSet x v) _ _ hy, rawGet_rawSet_other _ _ _ _ hne]
  split
  · split <;> simp [rawGet_rawSet_other, hne]
  · simp [rawGet_rawSet_other, hne]

/-- A register other than the counter keeps its value under a write to another address of the I/O region. -/
theorem ioWrite_ioGet_other (x : Nat) (r : IoReg) (v : Byte) (hne : s.params.map.addr r ≠ x) (h3 : r ≠ .DIVLO)
    (h4 : r ≠ .DIV) : (s.ioWrite x v).ioGet r = s.ioGet r := by
  unfold State.ioGet State.addr
  rw [ioWrite_params]
  exact ioWrite_rawGet_other s _ _ v (map_addr_range _ r).2.2.2 hne (by simpa using h3) (by simpa using h4)

/-- A mapped write outside the I/O region leaves the registers but IE alone. -/
theorem memWrite_ioGet_outside (a : Word) (v : Byte) (r : IoReg) (hr : r ≠ .IE)
    (h : s.params.map.isIo a.toNat = false) : (s.memWrite a v).ioGet r = s.ioGet r := by
  have k := map_addr_io s.params.map r hr
  have hi := map_io s.params.map k
  have out : ∀ x w, x < 0xFE00 ∨ s.params.map.isIo x = false → (s.rawSet x w).ioGet r = s.ioGet r := fun x w hx =>
    ioGet_rawSet_other s x r w (by
      rintro rfl
      rcases hx with hx | hx
      · omega
      · exact Bool.false_ne_true (hx.symm.trans k))
  unfold State.memWrite State.writeAt
  split
  · unfold State.cartWrite; split <;> rfl
  split
  · next e => rw [isEcho_iff] at e; exact out _ _ (.inl (by simp only [Config.echoOffset]; omega))
  split
  · rfl
  rw [if_neg (by rw [h]; decide)]
  exact out _ _ (.inr h)

/-- A mapped write in the I/O region. -/
theorem memWrite_io_eq (a : Word) (v : Byte) (h : s.params.map.isIo a.toNat = true) :
    s.memWrite a v = s.ioWrite a.toNat v := by
  have h' := map_io _ h
  unfold State.memWrite State.writeAt
  rw [if_neg (by simp only [Config.romLast]; omega), if_neg (by rw [isEcho_iff]; omega), if_neg (by simp [h'.2.2]), if_pos h]

/-- A write at a named register. -/
theorem ioWrite_LY (v : Byte) : s.ioWrite (s.params.map.addr .LY) v = s := by
  unfold State.ioWrite
  simp

theorem ioWrite_STAT (v : Byte) : s.ioWrite (s.params.map.addr .STAT) v =
    s.ioSet .STAT ((v &&& 0xF8) ||| (s.ioGet .STAT &&& 0x07)) := by
  unfold State.ioWrite
  simp [State.ioSet, State.ioGet]

/-- A mapped write leaves LY alone (R46). -/
@[simp] theorem memWrite_ly (a : Word) (v : Byte) : (s.memWrite a v).ioGet .LY = s.ioGet .LY := by
  cases h : s.params.map.isIo a.toNat
  · exact memWrite_ioGet_outside s a v .LY (by decide) h
  · rw [memWrite_io_eq s a v h]
    by_cases e : s.params.map.addr .LY = a.toNat
    · rw [← e, ioWrite_LY]
    · exact ioWrite_ioGet_other s _ .LY v e (by decide) (by decide)

theorem keepLow3 (v w : Byte) : ((v &&& 0xF8) ||| (w &&& 0x07)) &&& 0x07 = w &&& 0x07 := by
  apply BitVec.eq_of_getLsbD_eq
  intro i hi
  match i, hi with
  | 0, _ | 1, _ | 2, _ | 3, _ | 4, _ | 5, _ | 6, _ | 7, _ => simp

/-- A mapped write leaves STAT bits 2..0 alone (R44). -/
@[simp] theorem memWrite_stat (a : Word) (v : Byte) :
    (s.memWrite a v).ioGet .STAT &&& 0x07 = s.ioGet .STAT &&& 0x07 := by
  cases h : s.params.map.isIo a.toNat
  · rw [memWrite_ioGet_outside s a v .STAT (by decide) h]
  · rw [memWrite_io_eq s a v h]
    by_cases e : s.params.map.addr .STAT = a.toNat
    · rw [← e, ioWrite_STAT, ioGet_ioSet_same, keepLow3]
    · rw [ioWrite_ioGet_other s _ .STAT v e (by decide) (by decide)]

theorem rawOk_ioSet (r : IoReg) (v : Byte) (h : s.rawOk = true) : (s.ioSet r v).rawOk = true :=
  rawOk_rawSet s _ v h (isStorage_addr _ r)

theorem memWrite_rawOk (a : Word) (v : Byte) (h : s.rawOk = true) : (s.memWrite a v).rawOk = true := by
  have ha := a.isLt
  unfold State.memWrite State.writeAt
  split
  · unfold State.cartWrite; split <;> exact h
  split
  · next he =>
    rw [isEcho_iff] at he
    exact rawOk_rawSet s _ _ h (isStorage_home _ (by simp only [Config.echoOffset]; omega))
  split
  · exact h
  next h1 h2 h3 =>
  rw [isEcho_iff] at h2
  have hs : s.params.map.isStorage a.toNat = true :=
    (isStorage_iff _ _).2 ⟨by simp only [Config.romLast] at h1; omega, by omega, h2, by simpa using h3⟩
  split
  · unfold State.ioWrite
    split
    · exact rawOk_ioSet _ .DIV _ (rawOk_ioSet s .DIVLO _ h)
    split
    · exact rawOk_rawSet s _ _ h hs
    split
    · exact rawOk_rawSet s _ _ h hs
    split
    · exact h
    split
    · exact dmaCopy_rawOk _ _ (rawOk_rawSet s _ _ h hs)
    split
    · split <;> exact rawOk_rawSet s _ _ h hs
    · exact rawOk_rawSet s _ _ h hs
  · exact rawOk_rawSet s _ _ h hs

theorem bankOf_ne (v : Byte) : bankOf v ≠ 0 := by
  unfold bankOf
  simp only
  split
  · decide
  · assumption

theorem ioWrite_cartBank (x : Nat) (v : Byte) : (s.ioWrite x v).cartBank = s.cartBank := by
  unfold State.ioWrite
  split
  · rfl
  split
  · rfl
  split
  · rfl
  split
  · rfl
  split
  · exact dmaCopy_cartBank _ v
  split
  · split <;> rfl
  · rfl

/-- A mapped write leaves the bank register alone or selects a bank, which is never 0. -/
theorem memWrite_cartBank (a : Word) (v : Byte) :
    (s.memWrite a v).cartBank = s.cartBank ∨ (s.memWrite a v).cartBank = bankOf v := by
  unfold State.memWrite State.writeAt
  split
  · unfold State.cartWrite
    split
    · exact .inr rfl
    · exact .inl rfl
  left
  split
  · exact rawSet_cartBank s _ v
  split
  · rfl
  split
  · exact ioWrite_cartBank s _ v
  · exact rawSet_cartBank s _ v

theorem memWrite_bankOk (a : Word) (v : Byte) (h : s.bankOk) : (s.memWrite a v).bankOk := by
  rcases memWrite_cartBank s a v with e | e
  · exact fun k => h (e.symm.trans k)
  · exact fun k => bankOf_ne v (e.symm.trans k)

/-! ### The invariant under what an instruction does -/

theorem State.Inv.of_same {s t : State} (e : SameMachine s t) (h : s.Inv) : t.Inv := by
  obtain ⟨h1, h2, h3, h4, h5, h6, h7, h8, h9, h10, h11, h12, h13⟩ := e
  simpa only [State.Inv, State.rawOk, State.imagesOk, State.bankOk, State.statOk, State.accOk, State.lyOk, State.ioGet,
    State.addr, State.rawGet, h1, h3, h4, h5, h8, h9, h10, h11, h13] using h

theorem and3_of_and7 (x y : Byte) (h : x &&& 0x07 = y &&& 0x07) : x &&& 0x03 = y &&& 0x03 := by
  have : (x &&& 0x07) &&& 0x03 = (y &&& 0x07) &&& 0x03 := by rw [h]
  rw [BitVec.and_assoc, BitVec.and_assoc] at this
  exact this

theorem State.Inv.memWrite {s : State} (h : s.Inv) (a : Word) (v : Byte) : (s.memWrite a v).Inv := by
  obtain ⟨h1, h2, h3, h4, h5, h6, h7, h8, h9⟩ := h
  refine ⟨memWrite_rawOk s a v h1, ?_, ?_, ?_, memWrite_bankOk s a v h5, ?_, ?_, ?_, ?_⟩
  · simpa [State.imagesOk] using h2
  · simpa using h3
  · simpa using h4
  · exact (and3_of_and7 _ _ (memWrite_stat s a v)).trans (h6.trans (by simp))
  · simpa using h7
  · simpa only [State.lyOk, memWrite_ly, memWrite_lcdMode] using h8
  · simpa using h9

theorem State.Inv.evolves {s t : State} (e : Evolves s t) (h : s.Inv) : t.Inv := by
  induction e with
  | refl => exact h
  | cpu _ e ih => exact State.Inv.of_same e ih
  | store _ a v ih => exact ih.memWrite a v

/-! ### Raw writes by the other blocks -/

/-- A write by another block to a register other than STAT and LY keeps the invariant. -/
theorem State.Inv.ioSet {s : State} (h : s.Inv) (r : IoReg) (v : Byte) (h1 : r ≠ .STAT) (h2 : r ≠ .LY) :
    (s.ioSet r v).Inv := by
  obtain ⟨k1, k2, k3, k4, k5, k6, k7, k8, k9⟩ := h
  refine ⟨rawOk_ioSet s r v k1, k2, k3, k4, k5, ?_, k7, ?_, k9⟩
  · exact (congrArg (· &&& 0x03) (ioGet_ioSet_other _ _ _ _ h1.symm)).trans k6
  · simpa only [State.lyOk, ioGet_ioSet_other _ _ _ _ h2.symm, ioSet_lcdMode] using k8

theorem State.Inv.raiseBit {s : State} (h : s.Inv) (k : Nat) : (s.raiseBit .IF k).Inv :=
  h.ioSet _ _ (by decide) (by decide)

/-- The invariant does not look at the timer's two flags. -/
theorem State.Inv.setLastSample {s : State} (h : s.Inv) (v : Bool) : (s.setLastSample v).Inv := h

theorem State.Inv.setPendingOverflow {s : State} (h : s.Inv) (v : Bool) : (s.setPendingOverflow v).Inv := h

theorem State.Inv.serviceInterrupt {s : State} (h : s.Inv) (i : IntSource) : (s.serviceInterrupt i).Inv := by
  have h1 : (s.ioSet .IF (withBit (s.ioGet .IF) i.bit false)).Inv := h.ioSet _ _ (by decide) (by decide)
  refine State.Inv.evolves ?_ h1
  exact ((((((Evolves.refl).setIme _).setImeDelay _).setHalted _).push16 _).setPc _).charge _

/-! ### The timer -/

theorem State.Inv.timerTick {s : State} (h : s.Inv) : s.timerTick.Inv := by
  have h1 : s.tickCounter.Inv := (h.ioSet .DIVLO _ (by decide) (by decide)).ioSet .DIV _ (by decide) (by decide)
  have h2 : s.tickCounter.tickReload.Inv := by
    unfold State.tickReload
    split
    · exact ((h1.ioSet .TIMA _ (by decide) (by decide)).raiseBit _).setPendingOverflow _
    · exact h1
  unfold State.timerTick State.tickSample
  split
  · split
    · have h3 := h2.ioSet .TIMA (s.tickCounter.tickReload.ioGet .TIMA + 1) (by decide) (by decide)
      unfold State.countTima
      simp only
      split
      · exact h3
      · exact h3
    · exact h2
  · exact h2

theorem State.Inv.timerAdvance {s : State} (h : s.Inv) (n : Nat) : (s.timerAdvance n).Inv := by
  induction n generalizing s with
  | zero => exact h
  | succ n ih => exact ih h.timerTick

/-! ### The cycle count of an instruction -/

/-- A form reports at most 24 cycles; the fatal exception reports none. -/
theorem cycles_form (f : Form) (s : State) (h : f ≠ .prefixed) :
    (f.run s).cycles ≤ 24 ∨ ((f.run s).fault.isSome = true) := by
  cases f <;> first
    | exact absurd rfl h
    | exact .inr rfl
    | (left; show (State.charge _ _).cycles ≤ 24; simp; done)
    | (left
       simp only [Form.run, State.jumpIf, State.jumpRelIf, State.callIf, State.retIf]
       split <;> simp)

theorem cycles_exec (i : Instr) (s t : State) (h : exec i s = .next t) : t.cycles ≤ 24 ∨ t.fault.isSome = true := by
  rw [exec_form] at h
  cases h
  by_cases hp : formOf i = .prefixed
  · rw [hp]
    show (State.prefixed s).cycles ≤ 24 ∨ (State.prefixed s).fault.isSome = true
    unfold State.prefixed
    rw [extended_form]
    exact cycles_form _ _ (formOf_decodeExtended_ne _)
  · exact cycles_form _ s hp

end Machine
end Sys2Proof
end

