-- ==== Sys2Proof/Laws/Operands.lean ====
section
/-! SUPPORT. The laws of the operand forms: reading a register, a pair or the flags after a write of one, and that a
write of a register is seen by nothing else. -/

namespace Sys2Proof
namespace Machine

variable (s : State)

/-! ### 8-bit registers -/

theorem getReg8_setReg8 (r q : Reg8) (v : Byte) : (s.setReg8 r v).getReg8 q = if q = r then v else s.getReg8 q := by
  cases r <;> cases q <;> rfl

@[simp] theorem getReg8_setReg8_same (r : Reg8) (v : Byte) : (s.setReg8 r v).getReg8 r = v := by cases r <;> rfl

theorem getReg8_setReg8_other (r q : Reg8) (v : Byte) (h : q ≠ r) : (s.setReg8 r v).getReg8 q = s.getReg8 q := by
  rw [getReg8_setReg8, if_neg h]

/-- Two states with the same register bytes give the same registers. -/
theorem getReg8_congr {s t : State} (ha : t.a = s.a) (hb : t.b = s.b) (hc : t.c = s.c) (hd : t.d = s.d) (he : t.e = s.e)
    (hh : t.h = s.h) (hl : t.l = s.l) (q : Reg8) : t.getReg8 q = s.getReg8 q := by
  cases q <;> assumption

@[simp] theorem getReg8_A : s.getReg8 .A = s.a := rfl
@[simp] theorem getReg8_B : s.getReg8 .B = s.b := rfl
@[simp] theorem getReg8_C : s.getReg8 .C = s.c := rfl
@[simp] theorem getReg8_D : s.getReg8 .D = s.d := rfl
@[simp] theorem getReg8_E : s.getReg8 .E = s.e := rfl
@[simp] theorem getReg8_H : s.getReg8 .H = s.h := rfl
@[simp] theorem getReg8_L : s.getReg8 .L = s.l := rfl

@[simp] theorem setReg8_flags (r v) : (s.setReg8 r v).flags = s.flags := by cases r <;> rfl
@[simp] theorem setReg8_sp (r v) : (s.setReg8 r v).sp = s.sp := by cases r <;> rfl
@[simp] theorem setReg8_pc (r v) : (s.setReg8 r v).pc = s.pc := by cases r <;> rfl
@[simp] theorem setReg8_halted (r v) : (s.setReg8 r v).halted = s.halted := by cases r <;> rfl
@[simp] theorem setReg8_stopped (r v) : (s.setReg8 r v).stopped = s.stopped := by cases r <;> rfl
@[simp] theorem setReg8_fault (r v) : (s.setReg8 r v).fault = s.fault := by cases r <;> rfl
@[simp] theorem setReg8_cycles (r v) : (s.setReg8 r v).cycles = s.cycles := by cases r <;> rfl
@[simp] theorem setReg8_ime (r v) : (s.setReg8 r v).ime = s.ime := by cases r <;> rfl
@[simp] theorem setReg8_imeDelay (r v) : (s.setReg8 r v).imeDelay = s.imeDelay := by cases r <;> rfl
@[simp] theorem setReg8_raw (r v) : (s.setReg8 r v).raw = s.raw := by cases r <;> rfl
@[simp] theorem setReg8_bootActive (r v) : (s.setReg8 r v).bootActive = s.bootActive := by cases r <;> rfl
@[simp] theorem setReg8_cartBank (r v) : (s.setReg8 r v).cartBank = s.cartBank := by cases r <;> rfl
@[simp] theorem setReg8_rom (r v) : (s.setReg8 r v).rom = s.rom := by cases r <;> rfl
@[simp] theorem setReg8_boot (r v) : (s.setReg8 r v).boot = s.boot := by cases r <;> rfl
@[simp] theorem setReg8_lastSample (r v) : (s.setReg8 r v).lastSample = s.lastSample := by cases r <;> rfl
@[simp] theorem setReg8_pendingOverflow (r v) : (s.setReg8 r v).pendingOverflow = s.pendingOverflow := by cases r <;> rfl
@[simp] theorem setReg8_lcdMode (r v) : (s.setReg8 r v).lcdMode = s.lcdMode := by cases r <;> rfl
@[simp] theorem setReg8_lcdAcc (r v) : (s.setReg8 r v).lcdAcc = s.lcdAcc := by cases r <;> rfl
@[simp] theorem setReg8_back (r v) : (s.setReg8 r v).back = s.back := by cases r <;> rfl
@[simp] theorem setReg8_frame (r v) : (s.setReg8 r v).frame = s.frame := by cases r <;> rfl
@[simp] theorem setReg8_frameReady (r v) : (s.setReg8 r v).frameReady = s.frameReady := by cases r <;> rfl
@[simp] theorem setReg8_rawGet (r v) (x : Nat) : (s.setReg8 r v).rawGet x = s.rawGet x := by cases r <;> rfl
@[simp] theorem setReg8_readAt (r v) (x : Nat) : (s.setReg8 r v).readAt x = s.readAt x := by cases r <;> rfl
@[simp] theorem setReg8_memRead (r v) (x : Word) : (s.setReg8 r v).memRead x = s.memRead x := by cases r <;> rfl

/-! ### Pairs -/

theorem getPair_setPair (p q : Pair) (v : Word) : (s.setPair p v).getPair q = if q = p then v else s.getPair q := by
  cases p <;> cases q <;> simp [State.setPair, State.getPair]

@[simp] theorem getPair_setPair_same (p : Pair) (v : Word) : (s.setPair p v).getPair p = v := by
  rw [getPair_setPair, if_pos rfl]

/-- The two registers of a pair. -/
def pairRegs : Pair → List Reg8
  | .BC => [.B, .C] | .DE => [.D, .E] | .HL => [.H, .L]

theorem getReg8_setPair_other (p : Pair) (q : Reg8) (v : Word) (h : q ∉ pairRegs p) :
    (s.setPair p v).getReg8 q = s.getReg8 q := by
  cases p <;> cases q <;> first | rfl | exact absurd (by decide) h

@[simp] theorem hl_eq : s.hl = joinBytes s.h s.l := rfl
@[simp] theorem readHl_eq : s.readHl = s.memRead (joinBytes s.h s.l) := rfl
@[simp] theorem writeHl_eq (v : Byte) : s.writeHl v = s.memWrite (joinBytes s.h s.l) v := rfl
@[simp] theorem setPair_a (p v) : (s.setPair p v).a = s.a := by cases p <;> rfl

@[simp] theorem setPair_flags (p v) : (s.setPair p v).flags = s.flags := by cases p <;> rfl
@[simp] theorem setPair_sp (p v) : (s.setPair p v).sp = s.sp := by cases p <;> rfl
@[simp] theorem setPair_pc (p v) : (s.setPair p v).pc = s.pc := by cases p <;> rfl
@[simp] theorem setPair_halted (p v) : (s.setPair p v).halted = s.halted := by cases p <;> rfl
@[simp] theorem setPair_stopped (p v) : (s.setPair p v).stopped = s.stopped := by cases p <;> rfl
@[simp] theorem setPair_fault (p v) : (s.setPair p v).fault = s.fault := by cases p <;> rfl
@[simp] theorem setPair_cycles (p v) : (s.setPair p v).cycles = s.cycles := by cases p <;> rfl
@[simp] theorem setPair_ime (p v) : (s.setPair p v).ime = s.ime := by cases p <;> rfl
@[simp] theorem setPair_imeDelay (p v) : (s.setPair p v).imeDelay = s.imeDelay := by cases p <;> rfl
@[simp] theorem setPair_raw (p v) : (s.setPair p v).raw = s.raw := by cases p <;> rfl
@[simp] theorem setPair_bootActive (p v) : (s.setPair p v).bootActive = s.bootActive := by cases p <;> rfl
@[simp] theorem setPair_cartBank (p v) : (s.setPair p v).cartBank = s.cartBank := by cases p <;> rfl
@[simp] theorem setPair_rom (p v) : (s.setPair p v).rom = s.rom := by cases p <;> rfl
@[simp] theorem setPair_boot (p v) : (s.setPair p v).boot = s.boot := by cases p <;> rfl
@[simp] theorem setPair_lastSample (p v) : (s.setPair p v).lastSample = s.lastSample := by cases p <;> rfl
@[simp] theorem setPair_pendingOverflow (p v) : (s.setPair p v).pendingOverflow = s.pendingOverflow := by cases p <;> rfl
@[simp] theorem setPair_lcdMode (p v) : (s.setPair p v).lcdMode = s.lcdMode := by cases p <;> rfl
@[simp] theorem setPair_lcdAcc (p v) : (s.setPair p v).lcdAcc = s.lcdAcc := by cases p <;> rfl
@[simp] theorem setPair_back (p v) : (s.setPair p v).back = s.back := by cases p <;> rfl
@[simp] theorem setPair_frame (p v) : (s.setPair p v).frame = s.frame := by cases p <;> rfl
@[simp] theorem setPair_frameReady (p v) : (s.setPair p v).frameReady = s.frameReady := by cases p <;> rfl
@[simp] theorem setPair_rawGet (p v) (x : Nat) : (s.setPair p v).rawGet x = s.rawGet x := by cases p <;> rfl
@[simp] theorem setPair_readAt (p v) (x : Nat) : (s.setPair p v).readAt x = s.readAt x := by cases p <;> rfl
@[simp] theorem setPair_memRead (p v) (x : Word) : (s.setPair p v).memRead x = s.memRead x := by cases p <;> rfl

/-! ### 16-bit operands -/

theorem getReg16_setReg16 (r q : Reg16) (v : Word) :
    (s.setReg16 r v).getReg16 q = if q = r then v else s.getReg16 q := by
  cases r <;> cases q <;> first | rfl | exact getPair_setPair_same s .BC v

@[simp] theorem setReg16_a (r v) : (s.setReg16 r v).a = s.a := by cases r <;> rfl
@[simp] theorem setReg16_flags (r v) : (s.setReg16 r v).flags = s.flags := by cases r <;> rfl
@[simp] theorem setReg16_pc (r v) : (s.setReg16 r v).pc = s.pc := by cases r <;> rfl
@[simp] theorem setReg16_halted (r v) : (s.setReg16 r v).halted = s.halted := by cases r <;> rfl
@[simp] theorem setReg16_stopped (r v) : (s.setReg16 r v).stopped = s.stopped := by cases r <;> rfl
@[simp] theorem setReg16_fault (r v) : (s.setReg16 r v).fault = s.fault := by cases r <;> rfl
@[simp] theorem setReg16_cycles (r v) : (s.setReg16 r v).cycles = s.cycles := by cases r <;> rfl
@[simp] theorem setReg16_ime (r v) : (s.setReg16 r v).ime = s.ime := by cases r <;> rfl
@[simp] theorem setReg16_imeDelay (r v) : (s.setReg16 r v).imeDelay = s.imeDelay := by cases r <;> rfl
@[simp] theorem setReg16_raw (r v) : (s.setReg16 r v).raw = s.raw := by cases r <;> rfl
@[simp] theorem setReg16_bootActive (r v) : (s.setReg16 r v).bootActive = s.bootActive := by cases r <;> rfl
@[simp] theorem setReg16_cartBank (r v) : (s.setReg16 r v).cartBank = s.cartBank := by cases r <;> rfl
@[simp] theorem setReg16_rom (r v) : (s.setReg16 r v).rom = s.rom := by cases r <;> rfl
@[simp] theorem setReg16_boot (r v) : (s.setReg16 r v).boot = s.boot := by cases r <;> rfl
@[simp] theorem setReg16_lastSample (r v) : (s.setReg16 r v).lastSample = s.lastSample := by cases r <;> rfl
@[simp] theorem setReg16_pendingOverflow (r v) : (s.setReg16 r v).pendingOverflow = s.pendingOverflow := by cases r <;> rfl
@[simp] theorem setReg16_lcdMode (r v) : (s.setReg16 r v).lcdMode = s.lcdMode := by cases r <;> rfl
@[simp] theorem setReg16_lcdAcc (r v) : (s.setReg16 r v).lcdAcc = s.lcdAcc := by cases r <;> rfl
@[simp] theorem setReg16_back (r v) : (s.setReg16 r v).back = s.back := by cases r <;> rfl
@[simp] theorem setReg16_frame (r v) : (s.setReg16 r v).frame = s.frame := by cases r <;> rfl
@[simp] theorem setReg16_frameReady (r v) : (s.setReg16 r v).frameReady = s.frameReady := by cases r <;> rfl
@[simp] theorem setReg16_rawGet (r v) (x : Nat) : (s.setReg16 r v).rawGet x = s.rawGet x := by cases r <;> rfl
@[simp] theorem setReg16_readAt (r v) (x : Nat) : (s.setReg16 r v).readAt x = s.readAt x := by cases r <;> rfl
@[simp] theorem setReg16_memRead (r v) (x : Word) : (s.setReg16 r v).memRead x = s.memRead x := by cases r <;> rfl

/-! ### The packed status byte -/

@[simp] theorem unpack_pack (f : Flags) : Flags.unpack f.pack = f := by
  obtain ⟨z, n, h, c⟩ := f
  cases z <;> cases n <;> cases h <;> cases c <;> rfl

theorem pack_low (f : Flags) : f.pack.toNat % 16 = 0 := by
  obtain ⟨z, n, h, c⟩ := f
  cases z <;> cases n <;> cases h <;> cases c <;> rfl

end Machine
end Sys2Proof
end

