-- ==== Sys2Proof/Laws/Access.lean ====
section
/-! SUPPORT. The laws of the mapped read and write, address by address: what a read sees, where a write lands, what it
leaves alone, and how push and pop follow from them. -/

namespace Sys2Proof
namespace Machine

variable (s : State)

/-! ### Where a read looks -/

/-- The place in the backing array of an address outside the cartridge window. -/
def homeOf (x : Nat) : Nat := if isEcho x then x - Config.echoOffset else x

/-- A read at 0x8000 and above sees the backing array alone, but for the unusable region. -/
theorem readAt_high (x : Nat) (h : 0x8000 ≤ x) : s.readAt x = if s.params.map.isUnusable x then 0xFF else s.rawGet (homeOf x) := by
  unfold State.readAt homeOf
  rw [if_neg (fun e => absurd e.1 (by simp only [Config.bootLast]; omega)),
    if_neg (by simp only [Config.romLast]; omega)]
  split
  · next e =>
    rw [isEcho_iff] at e
    rw [if_neg (fun k => (map_unusable _ k).2.2.1 e)]
  · rfl

/-- A read below 0x8000 sees the images, the overlay latch and the bank register alone. -/
theorem readAt_low (t : State) (x : Nat) (hx : x < 0x8000) (h2 : x ≤ 0xFF → t.bootActive = s.bootActive)
    (h3 : 0x4000 ≤ x → t.cartBank = s.cartBank) (h4 : t.rom = s.rom) (h5 : t.boot = s.boot) : t.readAt x = s.readAt x := by
  have e1 : t.cartRead x = s.cartRead x := by
    unfold State.cartRead State.cartIndex State.romByte
    rw [h4]
    split
    · rfl
    · rw [h3 (by simp only [Config.romFixedLast] at *; omega)]
  have e2 : x ≤ Config.romLast := by simp only [Config.romLast]; omega
  unfold State.readAt State.bootByte
  rw [if_pos e2, if_pos e2, e1, h5]
  by_cases hb : x ≤ 0xFF
  · rw [h2 hb]
  · rw [if_neg (fun e => hb e.1), if_neg (fun e => hb e.1)]

/-! ### Where a write lands -/

/-- A write below 0x8000 goes to the cartridge port. -/
theorem writeAt_low (x : Nat) (v : Byte) (h : x < 0x8000) : s.writeAt x v = s.cartWrite x v := by
  unfold State.writeAt
  rw [if_pos (by simp only [Config.romLast]; omega)]

/-- A write to storage outside the I/O region, or to the mirror, is one raw write. -/
theorem writeAt_plain (x : Nat) (v : Byte) (h : 0x8000 ≤ x) (h1 : s.params.map.isUnusable x = false)
    (h2 : s.params.map.isIo x = false) :
    s.writeAt x v = s.rawSet (homeOf x) v := by
  unfold State.writeAt homeOf
  rw [if_neg (by simp only [Config.romLast]; omega)]
  simp only [h1, h2]
  split <;> rfl

/-- A write in the I/O region. -/
theorem writeAt_io (x : Nat) (v : Byte) (h : s.params.map.isIo x = true) : s.writeAt x v = s.ioWrite x v := by
  have h' := map_io _ h
  unfold State.writeAt
  rw [if_neg (by simp only [Config.romLast]; omega), if_neg (by rw [isEcho_iff]; omega), if_neg (by simp [h'.2.2]), if_pos h]

/-- A write in the unusable region does nothing. -/
theorem writeAt_unusable (x : Nat) (v : Byte) (h : s.params.map.isUnusable x = true) : s.writeAt x v = s := by
  have h' := map_unusable _ h
  unfold State.writeAt
  rw [if_neg (by simp only [Config.romLast]; omega), if_neg (by rw [isEcho_iff]; omega), if_pos h]

/-! ### The DMA copy -/

@[simp] theorem dmaCopy_bootActive (v : Byte) : (s.dmaCopy v).bootActive = s.bootActive := by
  unfold State.dmaCopy
  generalize List.range Config.dmaLength = is
  induction is generalizing s with
  | nil => rfl
  | cons i is ih => exact ih _

@[simp] theorem dmaCopy_lastSample (v : Byte) : (s.dmaCopy v).lastSample = s.lastSample := by
  unfold State.dmaCopy
  generalize List.range Config.dmaLength = is
  induction is generalizing s with
  | nil => rfl
  | cons i is ih => exact ih _

/-! ### What a write leaves alone -/

theorem ioWrite_bootActive (x : Nat) (v : Byte) (h : x ≠ s.params.map.addr .BOOTOFF) : (s.ioWrite x v).bootActive = s.bootActive := by
  unfold State.ioWrite
  split; · rfl
  split; · rfl
  split; · rfl
  split; · rfl
  split; · exact dmaCopy_bootActive _ v
  rfl

theorem ioWrite_lastSample (x : Nat) (v : Byte) (h : x ≠ s.params.map.addr .DIVLO) (h2 : x ≠ s.params.map.addr .DIV)
    (h3 : x ≠ s.params.map.addr .TAC) : (s.ioWrite x v).lastSample = s.lastSample := by
  unfold State.ioWrite
  rw [if_neg (by simp [h, h2]), if_neg h3]
  split; · rfl
  split; · rfl
  split; · exact dmaCopy_lastSample _ v
  split
  · split <;> rfl
  · rfl

theorem toNat_ne {a b : Word} (h : a ≠ b) : a.toNat ≠ b.toNat := fun e => h (BitVec.eq_of_toNat_eq e)

/-- The overlay latch changes by a write to BOOTOFF alone (R55). -/
theorem memWrite_bootActive (a : Word) (v : Byte) (h : a.toNat ≠ s.params.map.addr .BOOTOFF) :
    (s.memWrite a v).bootActive = s.bootActive := by
  unfold State.memWrite
  by_cases h1 : a.toNat < 0x8000
  · rw [writeAt_low s _ v h1]; unfold State.cartWrite; split <;> rfl
  cases h2 : s.params.map.isUnusable a.toNat
  · cases h3 : s.params.map.isIo a.toNat
    · rw [writeAt_plain s _ v (by omega) h2 h3]; rfl
    · rw [writeAt_io s _ v h3]; exact ioWrite_bootActive s _ v h
  · rw [writeAt_unusable s _ v h2]

/-- The bank register changes by a write to 0x2000..0x3FFF alone (R81). -/
theorem memWrite_cartBank_other (a : Word) (v : Byte) (h : ¬ (0x2000 ≤ a.toNat ∧ a.toNat ≤ 0x3FFF)) :
    (s.memWrite a v).cartBank = s.cartBank := by
  unfold State.memWrite
  by_cases h1 : a.toNat < 0x8000
  · rw [writeAt_low s _ v h1]; unfold State.cartWrite; rw [if_neg (fun e => h e.2)]
  cases h2 : s.params.map.isUnusable a.toNat
  · cases h3 : s.params.map.isIo a.toNat
    · rw [writeAt_plain s _ v (by omega) h2 h3]; rfl
    · rw [writeAt_io s _ v h3]; exact ioWrite_cartBank s _ v
  · rw [writeAt_unusable s _ v h2]

/-- The timer's sample changes by a write to the counter or to TAC alone (R51, R54). -/
theorem memWrite_lastSample (a : Word) (v : Byte) (h : a.toNat ≠ s.params.map.addr .DIVLO)
    (h2 : a.toNat ≠ s.params.map.addr .DIV) (h3 : a.toNat ≠ s.params.map.addr .TAC) :
    (s.memWrite a v).lastSample = s.lastSample := by
  unfold State.memWrite
  by_cases h4 : a.toNat < 0x8000
  · rw [writeAt_low s _ v h4]; unfold State.cartWrite; split <;> rfl
  cases h5 : s.params.map.isUnusable a.toNat
  · cases h6 : s.params.map.isIo a.toNat
    · rw [writeAt_plain s _ v (by omega) h5 h6]; rfl
    · rw [writeAt_io s _ v h6]; exact ioWrite_lastSample s _ v h h2 h3
  · rw [writeAt_unusable s _ v h5]

/-- A write in the I/O region leaves every byte alone but the one written, the counter's two and, for the DMA trigger,
the sprite table. -/
theorem ioWrite_rawGet (x y : Nat) (v : Byte) (hne : y ≠ x)
    (h1 : ¬ ((x = s.params.map.addr .DIVLO ∨ x = s.params.map.addr .DIV)
      ∧ (y = s.params.map.addr .DIVLO ∨ y = s.params.map.addr .DIV)))
    (h2 : ¬ (x = s.params.map.addr .DMA ∧ s.params.map.bounds.spriteTable.contains y = true)) :
    (s.ioWrite x v).rawGet y = s.rawGet y := by
  unfold State.ioWrite
  split
  · next e =>
    rw [setLastSample_rawGet]
    exact setSyscnt_rawGet_other s 0 y (fun h => h1 ⟨e, .inl h⟩) (fun h => h1 ⟨e, .inr h⟩)
  split; · exact rawGet_rawSet_other s _ _ _ hne
  split; · exact rawGet_rawSet_other s _ _ _ hne
  split; · rfl
  split
  · next e =>
    rw [dmaCopy_rawGet_other (s.rawSet x v) _ _ (Bool.eq_false_iff.2 fun h => h2 ⟨e, h⟩), rawGet_rawSet_other _ _ _ _ hne]
  split
  · split
    · rw [setBootActive_rawGet]; exact rawGet_rawSet_other s _ _ _ hne
    · exact rawGet_rawSet_other s _ _ _ hne
  · exact rawGet_rawSet_other s _ _ _ hne

/-- A mapped write leaves every byte of the backing array alone but its own, and what its I/O register drags along. -/
theorem memWrite_rawGet (a : Word) (v : Byte) (y : Nat) (hne : 0x8000 ≤ a.toNat → y ≠ homeOf a.toNat)
    (h1 : ¬ ((a.toNat = s.params.map.addr .DIVLO ∨ a.toNat = s.params.map.addr .DIV)
      ∧ (y = s.params.map.addr .DIVLO ∨ y = s.params.map.addr .DIV)))
    (h2 : ¬ (a.toNat = s.params.map.addr .DMA ∧ s.params.map.bounds.spriteTable.contains y = true)) :
    (s.memWrite a v).rawGet y = s.rawGet y := by
  unfold State.memWrite
  by_cases h4 : a.toNat < 0x8000
  · rw [writeAt_low s _ v h4]; unfold State.cartWrite; split <;> rfl
  have hne := hne (by omega)
  cases h5 : s.params.map.isUnusable a.toNat
  · cases h6 : s.params.map.isIo a.toNat
    · rw [writeAt_plain s _ v (by omega) h5 h6]; exact rawGet_rawSet_other s _ _ _ hne
    · have h7 := map_io _ h6
      have e : homeOf a.toNat = a.toNat := by
        unfold homeOf; rw [if_neg]; rw [isEcho_iff]; omega
      rw [writeAt_io s _ v h6]
      exact ioWrite_rawGet s _ _ v (e ▸ hne) h1 h2
  · rw [writeAt_unusable s _ v h5]

/-! ### Storage reads back -/

/-- Video, external and working RAM, the mirror, the sprite table, high RAM and IE: a write is one raw write. -/
theorem memWrite_plain (a : Word) (v : Byte) (h : 0x8000 ≤ a.toNat) (h1 : s.params.map.isUnusable a.toNat = false)
    (h2 : s.params.map.isIo a.toNat = false) : s.memWrite a v = s.rawSet (homeOf a.toNat) v :=
  writeAt_plain s _ v h h1 h2

/-- A read at 0x8000 and above, outside the unusable region, sees its place in the backing array. -/
theorem memRead_plain (a : Word) (h : 0x8000 ≤ a.toNat) (h1 : s.params.map.isUnusable a.toNat = false) :
    s.memRead a = s.rawGet (homeOf a.toNat) := by
  unfold State.memRead
  rw [readAt_high s _ h, if_neg (by simp [h1])]

/-- A read of storage, whatever its region, sees its own byte of the backing array. -/
theorem memRead_storage (a : Word) (h : s.params.map.isStorage a.toNat = true) : s.memRead a = s.rawGet a.toNat := by
  rw [isStorage_iff] at h
  rw [memRead_plain s a h.1 h.2.2.2]
  unfold homeOf
  rw [if_neg (by rw [isEcho_iff]; exact h.2.2.1)]

/-- The mapped read of a named register's address is the register (R71). -/
@[simp] theorem memRead_addr (r : IoReg) : s.memRead (BitVec.ofNat 16 (s.params.map.addr r)) = s.ioGet r := by
  have k := map_addr_range s.params.map r
  have e : (BitVec.ofNat 16 (s.params.map.addr r)).toNat = s.params.map.addr r := by
    rw [BitVec.toNat_ofNat, Nat.mod_eq_of_lt (by omega)]
  rw [memRead_storage s _ (by rw [e]; exact isStorage_addr _ r), e]
  rfl

/-- An address in the I/O region, or IE, reads as its byte of the backing array; with `memRead_addr`, what a program sees of
the registers. -/
theorem ioGet_eq_memRead (r : IoReg) (a : Word) (h : a.toNat = s.params.map.addr r) : s.memRead a = s.ioGet r := by
  rw [memRead_storage s a (h ▸ isStorage_addr _ r), h]
  rfl

/-! ### Writes and the CPU's registers -/

theorem memWrite_of_cpu (f : State → State) (hraw : ∀ t v, f (t.setRaw v) = (f t).setRaw v)
    (hboot : ∀ t v, f (t.setBootActive v) = (f t).setBootActive v) (hbank : ∀ t v, f (t.setCartBank v) = (f t).setCartBank v)
    (hs : ∀ t v, f (t.setLastSample v) = (f t).setLastSample v) (h1 : ∀ t, (f t).raw = t.raw)
    (h2 : ∀ t, (f t).rom = t.rom) (hp : ∀ t, (f t).params = t.params)
    (h4 : ∀ t x, (f t).readAt x = t.readAt x) (a : Word) (v : Byte) :
    (f s).memWrite a v = f (s.memWrite a v) := by
  have hget : ∀ t x, (f t).rawGet x = t.rawGet x := fun t x => by simp [State.rawGet, h1]
  have hset : ∀ t x w, (f t).rawSet x w = f (t.rawSet x w) := fun t x w => by simp [State.rawSet, h1, hraw]
  have hdma : ∀ t, (f t).dmaCopy v = f (t.dmaCopy v) := by
    intro t
    unfold State.dmaCopy
    generalize List.range Config.dmaLength = is
    induction is generalizing t with
    | nil => rfl
    | cons i is ih => rw [List.foldl_cons, List.foldl_cons, hp, h4, hset, ih]
  have hio : ∀ t r, (f t).ioGet r = t.ioGet r := fun t r => by unfold State.ioGet State.addr; rw [hp, hget]
  have hioSet : ∀ t r w, (f t).ioSet r w = f (t.ioSet r w) := fun t r w => by
    unfold State.ioSet State.addr; rw [hp, hset]
  unfold State.memWrite State.writeAt
  rw [hp]
  split
  · unfold State.cartWrite State.cartBanked State.romByte
    rw [h2]
    split
    · exact (hbank _ _).symm
    · rfl
  split; · exact hset _ _ _
  split; · rfl
  split
  · unfold State.ioWrite State.addr
    rw [hp]
    split
    · rw [hs]; unfold State.setSyscnt; rw [← hioSet, ← hioSet]
    split
    · rw [hs, hset]; unfold State.syscnt; rw [hio, hio]
    split; · rw [hset, hget]
    split; · rfl
    split; · rw [hset, hdma]
    split
    · split
      · rw [hset, hboot]
      · exact hset _ _ _
    · exact hset _ _ _
  · exact hset _ _ _

/-- A write does not see `SP`. -/
theorem setSp_memWrite (p a : Word) (v : Byte) : (s.setSp p).memWrite a v = (s.memWrite a v).setSp p :=
  memWrite_of_cpu s (fun t => t.setSp p) (fun _ _ => rfl) (fun _ _ => rfl) (fun _ _ => rfl) (fun _ _ => rfl)
    (fun _ => rfl) (fun _ => rfl) (fun _ => rfl) (fun _ _ => rfl) a v

/-- A push is the two writes, high byte first, and `SP` moved down by two (R12). -/
theorem push16_writes (v : Word) :
    s.push16 v = ((s.memWrite (s.sp - 1) (hiByte v)).memWrite (s.sp - 2) (loByte v)).setSp (s.sp - 2) := by
  have e : s.sp - 1 - 1 = s.sp - 2 := by rw [BitVec.sub_sub]; rfl
  rw [push16_eq, e, setSp_memWrite, setSp_memWrite, setSp_memWrite, State.setSp_setSp]

end Machine
end Sys2Proof
end

