-- ==== Sys2Proof/Laws/Display.lean ====
section
/-! SUPPORT. The display controller keeps the invariant of a well-formed state. -/

namespace Sys2Proof
namespace Machine

/-- The parts of the invariant that do not mention the display's mode. -/
def State.Core (s : State) : Prop :=
  s.rawOk = true ∧ s.imagesOk = true ∧ Picture.ok s.back = true ∧ Picture.ok s.frame = true ∧ s.bankOk
    ∧ s.params.ok = true

theorem State.Inv.core {s : State} (h : s.Inv) : s.Core := 
  ⟨h.1, h.2.1, h.2.2.1, h.2.2.2.1, h.2.2.2.2.1, h.2.2.2.2.2.2.2.2⟩

theorem State.Core.inv {s : State} (h : s.Core) (h1 : s.statOk) (h2 : s.accOk) (h3 : s.lyOk) : s.Inv :=
  ⟨h.1, h.2.1, h.2.2.1, h.2.2.2.1, h.2.2.2.2.1, h1, h2, h3, h.2.2.2.2.2⟩

theorem State.Core.ioSet {s : State} (h : s.Core) (r : IoReg) (v : Byte) : (s.ioSet r v).Core :=
  ⟨rawOk_ioSet s r v h.1, h.2⟩

theorem State.Core.setLcdMode {s : State} (h : s.Core) (v : LcdMode) : (s.setLcdMode v).Core := h

theorem State.Core.setLcdAcc {s : State} (h : s.Core) (v : Nat) : (s.setLcdAcc v).Core := h

theorem State.Core.enterMode {s : State} (h : s.Core) (m : LcdMode) : (s.enterMode m).Core :=
  (h.setLcdMode m).ioSet _ _

theorem State.Core.raiseBit {s : State} (h : s.Core) (k : Nat) : (s.raiseBit .IF k).Core :=
  h.ioSet _ _

theorem State.Core.requestLcd {s : State} (h : s.Core) (k : Nat) : (s.requestLcd k).Core := by
  unfold State.requestLcd
  split
  · exact h.raiseBit _
  · exact h

theorem State.Core.setLy {s : State} (h : s.Core) (v : Byte) : (s.setLy v).Core := h.ioSet _ _

theorem State.Core.compareLy {s : State} (h : s.Core) : s.compareLy.Core := by
  unfold State.compareLy
  simp only
  split
  · exact (h.ioSet .STAT _).requestLcd _
  · exact h.ioSet .STAT _

theorem scanline_length (s : State) (ly : Nat) : (s.scanline ly).length = Config.lineWidth := by
  simp [State.scanline]

theorem picture_write (p : Picture) (ly : Nat) (row : PixelRow) (h : Picture.ok p = true)
    (h1 : ly < Config.visibleLines) (h2 : row.length = Config.lineWidth) :
    Picture.ok (Sparse.write (fun _ => blankRow) p ly row) = true := by
  simp only [Picture.ok, Bool.and_eq_true] at h ⊢
  exact ⟨Sparse.canonical_write _ _ _ _ h.1, Sparse.all_write _ _ _ _ _ h.2 (by simp [h1, h2])⟩

theorem State.Core.renderLine {s : State} (h : s.Core) : s.renderLine.Core := by
  unfold State.renderLine
  split
  · next hl =>
    exact ⟨h.1, h.2.1, picture_write _ _ _ h.2.2.1 hl (scanline_length s _), h.2.2.2.1, h.2.2.2.2⟩
  · exact h

theorem State.Core.publishFrame {s : State} (h : s.Core) : s.publishFrame.Core :=
  ⟨h.1, h.2.1, h.2.2.1, h.2.2.1, h.2.2.2.2⟩

theorem State.Core.enterOamScan {s : State} (h : s.Core) : s.enterOamScan.Core := (h.enterMode _).requestLcd _

theorem State.Core.enterVBlank {s : State} (h : s.Core) : s.enterVBlank.Core :=
  ((h.enterMode _).raiseBit _).publishFrame

/-! ### Mode, accumulator, LY and STAT through the small operations -/

variable (s : State)

@[simp] theorem requestLcd_lcdMode (k : Nat) : (s.requestLcd k).lcdMode = s.lcdMode := by
  unfold State.requestLcd; split <;> rfl

@[simp] theorem requestLcd_lcdAcc (k : Nat) : (s.requestLcd k).lcdAcc = s.lcdAcc := by
  unfold State.requestLcd; split <;> rfl

theorem requestLcd_ioGet (k : Nat) (r : IoReg) (h : r ≠ .IF) : (s.requestLcd k).ioGet r = s.ioGet r := by
  unfold State.requestLcd
  split
  · exact ioGet_ioSet_other _ _ _ _ h
  · rfl

@[simp] theorem requestLcd_params (k : Nat) : (s.requestLcd k).params = s.params := by
  unfold State.requestLcd; split <;> rfl

@[simp] theorem enterMode_lcdMode (m : LcdMode) : (s.enterMode m).lcdMode = m := rfl

@[simp] theorem enterMode_lcdAcc (m : LcdMode) : (s.enterMode m).lcdAcc = s.lcdAcc := rfl

theorem enterMode_ioGet (m : LcdMode) (r : IoReg) (h : r ≠ .STAT) : (s.enterMode m).ioGet r = s.ioGet r :=
  ioGet_ioSet_other (s.setLcdMode m) .STAT r _ h

theorem enterMode_stat (m : LcdMode) : (s.enterMode m).ioGet .STAT &&& 0x03 = m.code := by
  have h : (s.enterMode m).ioGet .STAT = (s.ioGet .STAT &&& 0xFC) ||| m.code :=
    ioGet_ioSet_same (s.setLcdMode m) .STAT _
  rw [h]
  generalize s.ioGet .STAT = w
  revert w
  cases m <;> decide +kernel

@[simp] theorem compareLy_lcdMode : s.compareLy.lcdMode = s.lcdMode := by
  unfold State.compareLy
  simp only
  split
  · simp
  · rfl

@[simp] theorem compareLy_lcdAcc : s.compareLy.lcdAcc = s.lcdAcc := by
  unfold State.compareLy
  simp only
  split
  · simp
  · rfl

theorem compareLy_ioGet (r : IoReg) (h1 : r ≠ .IF) (h2 : r ≠ .STAT) : s.compareLy.ioGet r = s.ioGet r := by
  unfold State.compareLy
  simp only
  split
  · rw [requestLcd_ioGet _ _ _ h1, ioGet_ioSet_other _ _ _ _ h2]
  · exact ioGet_ioSet_other _ _ _ _ h2

theorem withBit2_and3 (w : Byte) (x : Bool) : withBit w 2 x &&& 0x03 = w &&& 0x03 := by
  revert w
  cases x <;> decide +kernel

theorem compareLy_stat : s.compareLy.ioGet .STAT &&& 0x03 = s.ioGet .STAT &&& 0x03 := by
  unfold State.compareLy
  simp only
  split
  · rw [requestLcd_ioGet _ _ _ (by decide), ioGet_ioSet_same, withBit2_and3]
  · rw [ioGet_ioSet_same, withBit2_and3]

@[simp] theorem renderLine_lcdMode : s.renderLine.lcdMode = s.lcdMode := by
  unfold State.renderLine; split <;> rfl

@[simp] theorem renderLine_lcdAcc : s.renderLine.lcdAcc = s.lcdAcc := by
  unfold State.renderLine; split <;> rfl

@[simp] theorem renderLine_ioGet (r : IoReg) : s.renderLine.ioGet r = s.ioGet r := by
  unfold State.renderLine; split <;> rfl

theorem enterOamScan_lcdMode : s.enterOamScan.lcdMode = .oamScan := by simp [State.enterOamScan]

theorem enterOamScan_lcdAcc : s.enterOamScan.lcdAcc = s.lcdAcc := by simp [State.enterOamScan]

theorem enterOamScan_ly : s.enterOamScan.ioGet .LY = s.ioGet .LY := by
  unfold State.enterOamScan
  rw [requestLcd_ioGet _ _ _ (by decide), enterMode_ioGet _ _ _ (by decide)]

theorem enterOamScan_stat : s.enterOamScan.ioGet .STAT &&& 0x03 = LcdMode.oamScan.code := by
  unfold State.enterOamScan
  rw [requestLcd_ioGet _ _ _ (by decide)]
  exact enterMode_stat s _

@[simp] theorem setLy_lcdMode (v : Byte) : (s.setLy v).lcdMode = s.lcdMode := rfl

@[simp] theorem setLy_lcdAcc (v : Byte) : (s.setLy v).lcdAcc = s.lcdAcc := rfl

@[simp] theorem publishFrame_ioGet (r : IoReg) : s.publishFrame.ioGet r = s.ioGet r := rfl

theorem enterVBlank_lcdMode : s.enterVBlank.lcdMode = .vBlank := by
  simp [State.enterVBlank, State.publishFrame]

theorem enterVBlank_lcdAcc : s.enterVBlank.lcdAcc = s.lcdAcc := by
  simp [State.enterVBlank, State.publishFrame]

theorem enterVBlank_ioGet (r : IoReg) (h : r ≠ .IF) : s.enterVBlank.ioGet r = (s.enterMode .vBlank).ioGet r := by
  rw [State.enterVBlank, publishFrame_ioGet, State.raiseBit, ioGet_ioSet_other _ _ _ _ h]

/-! ### The transitions -/

theorem toNat_succ (v : Byte) (h : v.toNat < 255) : (v + 1).toNat = v.toNat + 1 := by
  rw [BitVec.toNat_add]
  simp
  omega

theorem lt_budget {k : Nat} (h : k < 80) (m : LcdMode) : k < m.budget := by
  cases m <;> simp only [LcdMode.budget] <;> omega

theorem setLy_succ_ly (h : (s.ioGet .LY).toNat < 255) :
    ((s.setLy (s.ly + 1)).ioGet .LY).toNat = (s.ioGet .LY).toNat + 1 := by
  rw [State.setLy, ioGet_ioSet_same]
  exact toNat_succ _ h

theorem setLy_stat (v : Byte) : (s.setLy v).ioGet .STAT = s.ioGet .STAT :=
  ioGet_ioSet_other _ .LY _ _ (by decide)

variable {s}

/-- Entry to VBlank on a line below the last. -/
theorem enterVBlank_inv (hc : s.Core) (ha : s.lcdAcc < 80) (hl : (s.ioGet .LY).toNat ≤ 153) :
    s.enterVBlank.Inv := by
  refine hc.enterVBlank.inv ?_ ?_ ?_
  · rw [State.statOk, enterVBlank_ioGet _ _ (by decide), enterVBlank_lcdMode]
    exact enterMode_stat s _
  · rw [State.accOk, enterVBlank_lcdMode, enterVBlank_lcdAcc]
    exact lt_budget ha _
  · rw [State.lyOk, enterVBlank_ioGet _ _ (by decide), enterMode_ioGet _ _ _ (by decide), enterVBlank_lcdMode]
    exact ⟨hl, .inl rfl⟩

/-- Entry to OamScan on a visible line. -/
theorem enterOamScan_inv (hc : s.Core) (ha : s.lcdAcc < 80) (hl : (s.ioGet .LY).toNat < 144) :
    s.enterOamScan.Inv := by
  refine hc.enterOamScan.inv ?_ ?_ ?_
  · rw [State.statOk, enterOamScan_lcdMode]
    exact enterOamScan_stat s
  · rw [State.accOk, enterOamScan_lcdMode, enterOamScan_lcdAcc]
    exact lt_budget ha _
  · rw [State.lyOk, enterOamScan_ly]
    exact ⟨Nat.le_trans (Nat.le_of_lt hl) (by decide), .inr hl⟩

theorem leaveHBlank_inv (h : s.Core) (ha : s.lcdAcc < 80) (hl : (s.ioGet .LY).toNat < 144) :
    s.leaveHBlank.Inv := by
  unfold State.leaveHBlank
  have hly := setLy_succ_ly s.renderLine (by rw [renderLine_ioGet]; omega)
  rw [renderLine_ioGet, ← compareLy_ioGet _ _ (by decide) (by decide)] at hly
  have hc : (s.renderLine.setLy (s.renderLine.ly + 1)).compareLy.Core := (h.renderLine.setLy _).compareLy
  have hacc : (s.renderLine.setLy (s.renderLine.ly + 1)).compareLy.lcdAcc = s.lcdAcc := by simp
  simp only
  generalize (s.renderLine.setLy (s.renderLine.ly + 1)).compareLy = u at hly hc hacc
  split
  · exact enterVBlank_inv hc (by omega) (by omega)
  · next hv =>
    have : (u.ioGet .LY).toNat ≠ 144 := hv
    exact enterOamScan_inv hc (by omega) (by omega)

theorem endVBlankLine_inv (h : s.Core) (hs : s.statOk) (hm : s.lcdMode = .vBlank) (ha : s.lcdAcc < 80)
    (hl : (s.ioGet .LY).toNat ≤ 153) : s.endVBlankLine.Inv := by
  unfold State.endVBlankLine
  have hly := setLy_succ_ly s (by omega)
  have hc : (s.setLy (s.ly + 1)).Core := h.setLy _
  have hst := setLy_stat s (s.ly + 1)
  have hacc := setLy_lcdAcc s (s.ly + 1)
  have hmode := setLy_lcdMode s (s.ly + 1)
  simp only
  generalize s.setLy (s.ly + 1) = u at hly hc hst hacc hmode
  split
  · have h0 : (u.setLy 0).compareLy.ioGet .LY = 0 := by
      rw [compareLy_ioGet _ _ (by decide) (by decide), State.setLy]
      exact ioGet_ioSet_same u .LY 0
    refine enterOamScan_inv (hc.setLy 0).compareLy ?_ ?_
    · rw [compareLy_lcdAcc, setLy_lcdAcc, hacc]; exact ha
    · rw [h0]; decide
  · next hn =>
    have hn' : ¬ 153 < (u.ioGet .LY).toNat := hn
    refine hc.compareLy.inv ?_ ?_ ?_
    · rw [State.statOk, compareLy_lcdMode, hmode]
      refine (compareLy_stat u).trans ?_
      rw [hst]
      exact hs
    · rw [State.accOk, compareLy_lcdMode, compareLy_lcdAcc, hmode, hacc]
      exact lt_budget ha _
    · rw [State.lyOk, compareLy_ioGet _ _ (by decide) (by decide), compareLy_lcdMode, hmode]
      exact ⟨Nat.le_of_not_lt hn', .inl hm⟩

/-- A transition with the remainder below the smallest budget keeps the invariant. -/
theorem leaveMode_inv (h : s.Core) (h1 : s.statOk) (h3 : s.lyOk) (ha : s.lcdAcc < 80) : s.leaveMode.Inv := by
  have l1 : (s.ioGet .LY).toNat ≤ 153 := h3.1
  have l2 : s.lcdMode = .vBlank ∨ (s.ioGet .LY).toNat < 144 := h3.2
  unfold State.leaveMode
  split
  · next hm =>
    have l2' := l2.resolve_left (by rw [hm]; decide)
    refine (h.enterMode _).inv (enterMode_stat s _) (lt_budget ha .pixelTransfer) ?_
    rw [State.lyOk, enterMode_ioGet _ _ _ (by decide)]
    exact ⟨l1, .inr l2'⟩
  · next hm =>
    have l2' := l2.resolve_left (by rw [hm]; decide)
    refine ((h.enterMode _).requestLcd 3).inv ?_ ?_ ?_
    · rw [State.statOk, requestLcd_ioGet _ _ _ (by decide), requestLcd_lcdMode]
      exact enterMode_stat s _
    · rw [State.accOk, requestLcd_lcdMode, requestLcd_lcdAcc]
      exact lt_budget ha .hBlank
    · rw [State.lyOk, requestLcd_ioGet _ _ _ (by decide), enterMode_ioGet _ _ _ (by decide)]
      exact ⟨l1, .inr l2'⟩
  · next hm => exact leaveHBlank_inv h ha (l2.resolve_left (by rw [hm]; decide))
  · next hm => exact endVBlankLine_inv h h1 hm ha l1

/-- The display controller keeps the invariant for the counts a machine step forwards. -/
theorem State.Inv.displayAdvance {s : State} (h : s.Inv) (n : Nat) (hn : n < 80) : (s.displayAdvance n).Inv := by
  have hc := h.core
  obtain ⟨-, -, -, -, -, h1, h2, h3, -⟩ := h
  unfold State.displayAdvance
  simp only
  split
  · next hb =>
    refine leaveMode_inv (hc.setLcdAcc _) h1 h3 ?_
    show (s.lcdAcc + n) % s.lcdMode.budget < 80
    have : (s.lcdAcc + n) % s.lcdMode.budget = s.lcdAcc + n - s.lcdMode.budget := by
      rw [Nat.mod_eq_sub_mod hb, Nat.mod_eq_of_lt]
      have : 80 ≤ s.lcdMode.budget := by cases s.lcdMode <;> decide
      have h2' : s.lcdAcc < s.lcdMode.budget := h2
      omega
    have h2' : s.lcdAcc < s.lcdMode.budget := h2
    omega
  · next hb =>
    exact (hc.setLcdAcc _).inv h1 (by simpa [State.accOk] using hb) h3

end Machine
end Sys2Proof
end

