-- ==== Sys2Proof/Laws/Timer.lean ====
section
/-! SUPPORT. The laws of the timer's tick, part by part, and of a byte with one bit replaced. -/

namespace Sys2Proof
namespace Machine

variable (s : State)

/-- A byte with its bit `k` made `x`, bit by bit. -/
theorem getLsbD_withBit (v : Byte) (k j : Nat) (x : Bool) (hk : k < 8) :
    (withBit v k x).getLsbD j = if j = k then x else v.getLsbD j := by
  have pow : ∀ k j : Fin 8, (BitVec.ofNat 8 (2 ^ k.val)).getLsbD j.val = decide (j = k) := by decide
  by_cases hj : j < 8
  · have e : (BitVec.ofNat 8 (2 ^ k)).getLsbD j = decide (j = k) :=
      (pow ⟨k, hk⟩ ⟨j, hj⟩).trans (by simp only [Fin.mk.injEq])
    unfold withBit
    cases x
    · rw [if_neg (by decide), BitVec.getLsbD_and, BitVec.getLsbD_not, e]
      by_cases h : j = k <;> simp [h, hj, hk]
    · rw [if_pos rfl, BitVec.getLsbD_or, e]
      by_cases h : j = k <;> simp [h]
  · rw [if_neg (by omega), BitVec.getLsbD_of_ge _ _ (by omega), BitVec.getLsbD_of_ge _ _ (by omega)]

/-- The counter holds what is stored in it. -/
@[simp] theorem setSyscnt_syscnt (v : Word) : (s.setSyscnt v).syscnt = v := by
  have a : (s.setSyscnt v).ioGet .DIV = hiByte v := ioGet_ioSet_same _ _ _
  have b : (s.setSyscnt v).ioGet .DIVLO = loByte v :=
    (ioGet_ioSet_other (s.ioSet .DIVLO (loByte v)) .DIV .DIVLO (hiByte v) (by decide)).trans (ioGet_ioSet_same _ _ _)
  rw [State.syscnt, a, b, joinBytes_hi_lo]

@[simp] theorem tickCounter_syscnt : s.tickCounter.syscnt = s.syscnt + 1 := setSyscnt_syscnt s _

/-- Part (a) writes the counter alone. -/
theorem tickCounter_ioGet (r : IoReg) (h1 : r ≠ .DIVLO) (h2 : r ≠ .DIV) : s.tickCounter.ioGet r = s.ioGet r :=
  setSyscnt_ioGet_other s _ r h1 h2

theorem tickCounter_rawGet (x : Nat) (h1 : x ≠ s.params.map.addr .DIVLO) (h2 : x ≠ s.params.map.addr .DIV) :
    s.tickCounter.rawGet x = s.rawGet x :=
  setSyscnt_rawGet_other s _ x h1 h2

/-- Part (b), with an overflow pending: TIMA is TMA, the Timer request is set, nothing is pending. -/
theorem tickReload_pending (h : s.pendingOverflow = true) :
    s.tickReload.ioGet .TIMA = s.ioGet .TMA ∧ s.tickReload.ioGet .IF = withBit (s.ioGet .IF) 2 true
      ∧ s.tickReload.pendingOverflow = false ∧ s.tickReload.lastSample = s.lastSample
      ∧ (∀ r, r ≠ .TIMA → r ≠ .IF → s.tickReload.ioGet r = s.ioGet r)
      ∧ ∀ x, x ≠ s.params.map.addr .TIMA → x ≠ s.params.map.addr .IF → s.tickReload.rawGet x = s.rawGet x := by
  have e : s.tickReload = ((s.ioSet .TIMA (s.ioGet .TMA)).raiseBit .IF 2).setPendingOverflow false := by
    unfold State.tickReload; rw [if_pos h]; rfl
  rw [e]
  refine ⟨?_, ?_, rfl, rfl, ?_, ?_⟩
  · simp [State.raiseBit, ioGet_ioSet]
  · simp [State.raiseBit, ioGet_ioSet]
  · intro r h1 h2
    simp [State.raiseBit, ioGet_ioSet, h1, h2]
  · intro x h1 h2
    exact (rawGet_ioSet_other (s.ioSet .TIMA (s.ioGet .TMA)) .IF x _ h2).trans (rawGet_ioSet_other s .TIMA x _ h1)

/-- Part (b), with none pending: nothing. -/
theorem tickReload_idle (h : s.pendingOverflow = false) : s.tickReload = s := by
  unfold State.tickReload
  rw [h]
  rfl

/-- Part (c), disabled: nothing. -/
theorem tickSample_disabled (h : s.ioBit .TAC 2 = false) : s.tickSample = s := by
  unfold State.tickSample
  simp [h]

/-- Part (c), enabled and no fall: the sample alone. -/
theorem tickSample_level (h : s.ioBit .TAC 2 = true) (hf : ¬ (s.lastSample = true ∧ s.tapBit = false)) :
    s.tickSample = s.setLastSample s.tapBit := by
  unfold State.tickSample
  rw [if_pos h, if_neg (by simpa using hf)]

/-- Part (c), enabled and a fall: TIMA counts, and its wrap sets the pending overflow. -/
theorem tickSample_fall (h : s.ioBit .TAC 2 = true) (h1 : s.lastSample = true) (h2 : s.tapBit = false) :
    s.tickSample = s.countTima.setLastSample false := by
  unfold State.tickSample
  rw [if_pos h, if_pos (by simp [h1, h2]), h2]

/-- A count of TIMA writes TIMA and, on the wrap, the pending overflow. -/
theorem countTima_spec : s.countTima.ioGet .TIMA = s.ioGet .TIMA + 1
    ∧ s.countTima.pendingOverflow = (decide (s.ioGet .TIMA = 0xFF) || s.pendingOverflow)
    ∧ (∀ r, r ≠ .TIMA → s.countTima.ioGet r = s.ioGet r)
    ∧ ∀ x, x ≠ s.params.map.addr .TIMA → s.countTima.rawGet x = s.rawGet x := by
  have wraps : ∀ q : Byte, q + 1 = 0 ↔ q = 0xFF := by decide
  have e : s.countTima = if s.ioGet .TIMA = 0xFF then (s.ioSet .TIMA (s.ioGet .TIMA + 1)).setPendingOverflow true
      else s.ioSet .TIMA (s.ioGet .TIMA + 1) := by
    unfold State.countTima
    simp only [ioGet_ioSet_same, wraps]
  rw [e]
  by_cases h : s.ioGet .TIMA = 0xFF
  · rw [if_pos h]
    exact ⟨by simp, by simp [h], fun r hr => by simp [ioGet_ioSet, hr],
      fun x hx => rawGet_ioSet_other s .TIMA x _ hx⟩
  · rw [if_neg h]
    exact ⟨by simp, by rw [decide_eq_false h]; rfl, fun r hr => by simp [ioGet_ioSet, hr],
      fun x hx => rawGet_ioSet_other s .TIMA x _ hx⟩

@[simp] theorem timerTick_params : s.timerTick.params = s.params := by
  unfold State.timerTick State.tickSample State.tickReload State.countTima State.tickCounter State.setSyscnt
  simp only
  repeat' split
  all_goals simp

/-- `timer_advance` of a sum is one after the other. -/
theorem timerAdvance_add (m n : Nat) : s.timerAdvance (m + n) = (s.timerAdvance m).timerAdvance n := by
  induction m generalizing s with
  | zero => simp [State.timerAdvance]
  | succ m ih => rw [Nat.succ_add]; exact ih _

end Machine
end Sys2Proof
end

