-- ==== Sys2Proof/Laws/DisplayBits.lean ====
section
/-! SUPPORT. What the display controller writes, bit by bit: the requests, the mode's code and the line compare; and the
renderer's colour indexes and shades in numbers. -/

namespace Sys2Proof
namespace Machine

/-! ### Planes and palettes -/

/-- The colour index in numbers: the high plane's bit, then the low plane's. -/
theorem planeIndex_toNat (lo hi : Byte) (k : Nat) :
    (planeIndex lo hi k).toNat = hi.toNat / 2 ^ k % 2 * 2 + lo.toNat / 2 ^ k % 2 := by
  have bit : ∀ (v : Byte), (BitVec.ofBool (bitAt v k)).toNat = v.toNat / 2 ^ k % 2 := by
    intro v
    rw [bitAt, BitVec.toNat_ofBool, BitVec.getLsbD, Nat.testBit_eq_decide_div_mod_eq]
    rcases Nat.mod_two_eq_zero_or_one (v.toNat / 2^k) with h | h <;> simp [h]
  show (BitVec.append _ _).toNat = _
  rw [← bit, ← bit]
  cases bitAt hi k <;> cases bitAt lo k <;> rfl

/-- A palette's entry in numbers. -/
theorem paletteShade_toNat (p : Byte) (i : Shade) : (paletteShade p i).toNat = p.toNat / 4 ^ i.toNat % 4 := by
  revert p i; decide +kernel

variable (s : State)

/-! ### Requests, modes and the compare -/

/-- The LCD request sets IF bit 1 when the STAT bit enables it, and no other bit. -/
theorem requestLcd_IF (k j : Nat) : ((s.requestLcd k).ioGet .IF).getLsbD j =
    ((s.ioGet .IF).getLsbD j || (decide (j = 1) && (s.ioGet .STAT).getLsbD k)) := by
  unfold State.requestLcd State.ioBit bitAt
  split
  · next h =>
    rw [State.raiseBit, ioGet_ioSet_same, IntSource.bit, getLsbD_withBit _ _ _ _ (by decide), h]
    by_cases hj : j = 1 <;> simp [hj]
  · next h => simp [h]

/-- What a request writes: IF or nothing. -/
theorem requestLcd_cases (k : Nat) : s.requestLcd k = s ∨ ∃ v, s.requestLcd k = s.ioSet .IF v := by
  unfold State.requestLcd
  split
  · exact .inr ⟨_, rfl⟩
  · exact .inl rfl

/-- A mode's code takes the two low bits of STAT and leaves the others. -/
theorem enterMode_STAT (m : LcdMode) : ((s.enterMode m).ioGet .STAT).toNat % 4 = m.code.toNat
    ∧ ∀ j, 2 ≤ j → ((s.enterMode m).ioGet .STAT).getLsbD j = (s.ioGet .STAT).getLsbD j := by
  have h : (s.enterMode m).ioGet .STAT = (s.ioGet .STAT &&& 0xFC) ||| m.code :=
    ioGet_ioSet_same (s.setLcdMode m) .STAT _
  rw [h]
  constructor
  · generalize s.ioGet .STAT = w
    revert w
    cases m <;> decide +kernel
  · intro j hj
    by_cases h8 : j < 8
    · generalize s.ioGet .STAT = w
      have : ∀ (m : LcdMode) (w : Byte) (j : Fin 8), 2 ≤ j.val → (w &&& 0xFC ||| m.code).getLsbD j = w.getLsbD j := by
        intro m; cases m <;> decide +kernel
      exact this m w ⟨j, h8⟩ hj
    · rw [BitVec.getLsbD_of_ge _ _ (by omega), BitVec.getLsbD_of_ge _ _ (by omega)]

/-- The line compare writes STAT bit 2 and no other. -/
theorem compareLy_STAT (j : Nat) : (s.compareLy.ioGet .STAT).getLsbD j =
    if j = 2 then decide (s.ioGet .LY = s.ioGet .LYC) else (s.ioGet .STAT).getLsbD j := by
  unfold State.compareLy State.ly
  simp only
  split
  · next h =>
    rw [requestLcd_ioGet _ _ _ (by decide), ioGet_ioSet_same, getLsbD_withBit _ _ _ _ (by decide), decide_eq_true h]
  · next h => rw [ioGet_ioSet_same, getLsbD_withBit _ _ _ _ (by decide), decide_eq_false h]

/-- The line compare makes the LCD request where LY equals LYC and STAT bit 6 enables it. -/
theorem compareLy_IF (j : Nat) : (s.compareLy.ioGet .IF).getLsbD j =
    ((s.ioGet .IF).getLsbD j
      || (decide (j = 1) && (decide (s.ioGet .LY = s.ioGet .LYC) && (s.ioGet .STAT).getLsbD 6))) := by
  unfold State.compareLy State.ly
  simp only
  split
  · next h =>
    rw [requestLcd_IF, ioGet_ioSet_other _ _ _ _ (by decide), ioGet_ioSet_same, getLsbD_withBit _ _ _ _ (by decide),
      if_neg (by decide), decide_eq_true h, Bool.true_and]
  · next h => rw [ioGet_ioSet_other _ _ _ _ (by decide), decide_eq_false h]; simp

/-- What the line compare writes: STAT, and perhaps IF. -/
theorem compareLy_cases : ∃ v, s.compareLy = s.ioSet .STAT v ∨ ∃ w, s.compareLy = (s.ioSet .STAT v).ioSet .IF w := by
  unfold State.compareLy
  simp only
  split
  · exact ⟨_, requestLcd_cases _ _⟩
  · exact ⟨_, .inl rfl⟩

end Machine
end Sys2Proof
end

