-- ==== Sys2Proof/Laws/Params.lean ====
section
/-! SUPPORT. The laws of the parameters: what the tables select where they are standard, what a row costs, and that no
step changes the parameters. -/

namespace Sys2Proof
namespace Machine

/-! ### The standard tables -/

theorem opcodeBytes_decodeX0 (y z : Octal) (n : Byte) (nn : Word) : (decodeX0 y z n nn).opcodeBytes = 1 := by
  cases y <;> cases z <;> rfl

theorem opcodeBytes_decodeX1 (y z : Octal) : (decodeX1 y z).opcodeBytes = 1 := by
  cases y <;> cases z <;> rfl

theorem opcodeBytes_decodeX2 (y z : Octal) : (decodeX2 y z).opcodeBytes = 1 := by
  cases y <;> cases z <;> rfl

theorem opcodeBytes_undefined (op : Byte) (h : op ≠ 0xCB) : (Instr.undefined op).opcodeBytes = 1 := by
  show (if some op = some (0xCB : Byte) then 2 else 1) = 1
  rw [if_neg (by simpa using h)]

theorem opcodeBytes_decodeX3 (y z : Octal) (op n : Byte) (nn : Word) (h : op ≠ 0xCB) (h2 : ¬ (y = .o1 ∧ z = .o3)) :
    (decodeX3 y z op n nn).opcodeBytes = 1 := by
  cases y <;> cases z <;>
    first
      | rfl
      | exact absurd ⟨rfl, rfl⟩ h2
      | exact opcodeBytes_undefined op h

/-- The opcode byte that the fields `x = 11`, `y = 001`, `z = 011` make is the prefix. -/
theorem prefix_fields (b0 : Byte) (h : b0 ≠ 0xCB) : ¬ (fieldX b0 = 3 ∧ fieldY b0 = .o1 ∧ fieldZ b0 = .o3) := by
  revert b0
  decide +kernel

theorem fieldX_lt (b0 : Byte) : fieldX b0 < 4 := by
  have := b0.isLt
  unfold fieldX
  omega

/-- A row of the primary page has one opcode byte. -/
theorem opcodeBytes_decodePrimary (b0 b1 b2 : Byte) (h : b0 ≠ 0xCB) : (decodePrimary b0 b1 b2).opcodeBytes = 1 := by
  have hx := fieldX_lt b0
  have hp := prefix_fields b0 h
  unfold decodePrimary
  simp only
  split
  · exact opcodeBytes_decodeX0 _ _ _ _
  · exact opcodeBytes_decodeX1 _ _
  · exact opcodeBytes_decodeX2 _ _
  · next h0 h1 h2 =>
    have h3 : fieldX b0 = 3 := by
      have e0 : fieldX b0 ≠ 0 := h0
      have e1 : fieldX b0 ≠ 1 := h1
      have e2 : fieldX b0 ≠ 2 := h2
      omega
    exact opcodeBytes_decodeX3 _ _ _ _ _ h (fun e => hp ⟨h3, e⟩)

theorem length_pos (i : Instr) : 1 ≤ i.length := by
  cases i <;> exact Nat.le_of_ble_eq_true rfl

theorem length_decodeExtended (b1 : Byte) : (decodeExtended b1).length = 2 := by
  revert b1
  decide +kernel

/-- With the standard tables the instruction is the one the standard decoder gives. -/
theorem instrOf_standard (P : Params) (h1 : P.optable = Optable.standard)
    (h2 : P.undefinedOpcodes = Config.undefinedOpcodes) (b0 b1 b2 : Byte) : P.instrOf b0 b1 b2 = decodeBytes b0 b1 b2 := by
  simp [Params.instrOf, decodeBytes, h1, h2, Optable.standard]

/-- With the standard tables the length is the instruction's own. -/
theorem lengthOf_standard (P : Params) (h1 : P.optable = Optable.standard)
    (h2 : P.undefinedOpcodes = Config.undefinedOpcodes) (b0 b1 b2 : Byte) :
    P.lengthOf b0 b1 b2 = (decodeBytes b0 b1 b2).length := by
  unfold Params.lengthOf
  rw [instrOf_standard P h1 h2]
  by_cases h : b0 = 0xCB
  · rw [if_pos h]
    unfold decodeBytes
    rw [if_pos h, length_decodeExtended]
  · rw [if_neg h]
    have hp := length_pos (decodeBytes b0 b1 b2)
    have ho : (decodeBytes b0 b1 b2).opcodeBytes = 1 := by
      unfold decodeBytes
      rw [if_neg h]
      split
      · exact opcodeBytes_undefined b0 h
      · exact opcodeBytes_decodePrimary _ _ _ h
    unfold Instr.operandBytes
    rw [ho]
    omega

/-- With the standard tables the cost is the row's own. -/
theorem costOf_standard (P : Params) (h1 : P.optable = Optable.standard)
    (h2 : P.undefinedOpcodes = Config.undefinedOpcodes) (b0 b1 b2 : Byte) : P.costOf b0 b1 b2 =
      ((decodeBytes b0 b1 b2).baseCycles, (decodeBytes b0 b1 b2).extraCycles) := by
  unfold Params.costOf
  rw [instrOf_standard P h1 h2, h1]
  simp [Optable.standard]

/-! ### Holes of the extended page -/

theorem isHole_iff (P : Params) (b0 b1 : Byte) : P.isHole b0 b1 = true ↔ b0 = 0xCB ∧ P.optable.extended.lookup b1 = some none := by
  simp [Params.isHole]

/-- The standard table has none. -/
theorem isHole_standard (P : Params) (h : P.optable = Optable.standard) (b0 b1 : Byte) : P.isHole b0 b1 = false := by
  simp [Params.isHole, h, Optable.standard]

/-- What the fatal exception at a hole writes: the latch and `PC`. -/
theorem raiseHole_eq (s : State) (b0 b1 : Byte) :
    s.raiseHole b0 b1 = (s.setPc (s.pc + 1)).setFault (some ⟨s.pc, [b0, b1]⟩) := by
  simp [State.raiseHole, State.raiseUnimplemented]

/-- At a hole the step raises the fatal exception. -/
theorem executeOne_hole (s : State) (h : s.params.isHole (s.fetchByte 0) (s.fetchByte 1) = true) :
    s.executeOne = .next (s.raiseHole (s.fetchByte 0) (s.fetchByte 1)) := if_pos h

/-- Everywhere else it executes the instruction at `PC`, and finishes it. -/
theorem executeOne_instr (s t : State) (h : s.params.isHole (s.fetchByte 0) (s.fetchByte 1) = false)
    (e : exec s.instrAtPc (s.setPc (s.pc + BitVec.ofNat 16 s.lengthAtPc)) = .next t) :
    s.executeOne = .next (t.finish s.costAtPc s.instrAtPc) := by
  unfold State.executeOne
  rw [h, if_neg Bool.false_ne_true, e]

/-! ### What a row costs -/

/-- A branch costs what its side costs. -/
theorem branch_cost {m n : Nat} (c : Bool) (t u : State) (ht : t.cycles = n) (hu : u.cycles = m) :
    (if c then t else u).cycles = m ∨ (if c then t else u).cycles = n := by
  cases c
  · exact .inl hu
  · exact .inr ht

/-- An instruction reports what its row costs, and where a conditional branch is taken the extra cost more (R117). -/
theorem exec_cost (i : Instr) (s t : State) (hi : isOperation i = true) (h : exec i s = .next t) :
    t.cycles = i.baseCycles ∨ t.cycles = i.baseCycles + i.extraCycles := by
  rw [exec_form] at h
  cases h
  cases i <;> first
    | exact .inl rfl
    | exact branch_cost _ _ _ rfl rfl
    | exact absurd hi Bool.false_ne_true

/-- No row of the standard table costs more than 24 cycles. -/
theorem rowCost_le (i : Instr) : i.baseCycles + i.extraCycles ≤ 24 := by
  cases i <;> exact Nat.le_of_ble_eq_true rfl

/-- The row's own cost reports what its meaning does. -/
theorem reportedCycles_own (i : Instr) (n : Nat) (h : n = i.baseCycles ∨ n = i.baseCycles + i.extraCycles) :
    reportedCycles (i.baseCycles, i.extraCycles) i n = n := by
  unfold reportedCycles
  split
  · next e => exact e.symm
  · next e => exact (h.resolve_left e).symm

/-- What a lookup finds is listed. -/
theorem mem_of_lookup {β : Type} (l : List (Byte × β)) (b : Byte) (d : β) (e : l.lookup b = some d) : ∃ k, (k, d) ∈ l := by
  induction l with
  | nil => cases e
  | cons c l ih =>
    rw [List.lookup_cons] at e
    split at e
    · cases e
      exact ⟨c.1, List.mem_cons_self⟩
    · exact (ih e).imp fun k h => List.mem_cons_of_mem _ h

/-- Whatever the table, the count reported is below the shortest display budget when its entries are. -/
theorem costOf_lt (P : Params) (h : P.ok = true) (b0 b1 b2 : Byte) : (P.costOf b0 b1 b2).1 + (P.costOf b0 b1 b2).2 < 80 := by
  simp only [Params.ok, Bool.and_eq_true, List.all_eq_true, decide_eq_true_eq] at h
  have ok : ∀ d : Descriptor, d.costOk = true → d.baseCycles + d.extraCycles < 80 := fun d e => of_decide_eq_true e
  unfold Params.costOf
  split
  · next d e =>
    split at e
    · obtain ⟨k, hk⟩ := mem_of_lookup _ b1 (some d) (Option.join_eq_some_iff.1 e)
      exact ok d (h.1.2 _ hk)
    · obtain ⟨k, hk⟩ := mem_of_lookup _ b0 d e
      exact ok d (h.1.1.2 _ hk)
  · exact Nat.lt_of_le_of_lt (rowCost_le _) (by decide)

theorem reportedCycles_lt (cost : Nat × Nat) (i : Instr) (n : Nat) (h : cost.1 + cost.2 < 80) :
    reportedCycles cost i n < 80 := by
  unfold reportedCycles
  split <;> omega

/-! ### No step changes the parameters -/

variable (s : State)

@[simp] theorem dispatch_params (i : Instr) (t : State) (h : exec i s = .next t) : t.params = s.params := by
  have e := evolves_exec i s t h
  clear h
  induction e with
  | refl => rfl
  | cpu _ e ih => exact e.2.2.2.2.2.2.2.2.2.2.2.2.trans ih
  | store _ a v ih => exact (memWrite_params _ a v).trans ih

@[simp] theorem timerAdvance_params (n : Nat) : (s.timerAdvance n).params = s.params := by
  induction n generalizing s with
  | zero => rfl
  | succ n ih => exact (ih _).trans (timerTick_params s)

@[simp] theorem compareLy_params : s.compareLy.params = s.params := by
  unfold State.compareLy
  simp only
  split
  · simp
  · rfl

@[simp] theorem renderLine_params : s.renderLine.params = s.params := by
  unfold State.renderLine; split <;> rfl

@[simp] theorem enterOamScan_params : s.enterOamScan.params = s.params := by
  unfold State.enterOamScan; rw [requestLcd_params]; rfl

@[simp] theorem enterVBlank_params : s.enterVBlank.params = s.params := by
  simp [State.enterVBlank, State.publishFrame, State.enterMode]

@[simp] theorem displayAdvance_params (n : Nat) : (s.displayAdvance n).params = s.params := by
  unfold State.displayAdvance
  simp only
  split
  · unfold State.leaveMode
    split
    · rfl
    · rw [requestLcd_params]; rfl
    · unfold State.leaveHBlank
      simp only
      split
      · rw [enterVBlank_params, compareLy_params]; exact renderLine_params _
      · rw [enterOamScan_params, compareLy_params]; exact renderLine_params _
    · unfold State.endVBlankLine
      simp only
      split
      · rw [enterOamScan_params, compareLy_params]; rfl
      · rw [compareLy_params]; rfl
  · rfl

end Machine
end Sys2Proof
end

