-- ==== Sys2Proof/Laws/PerInstr.lean ====
section
/-! SUPPORT. Statements about every instruction as syntax, one lemma for each constructor.
`EncodeLength`: an instruction is encoded in as many bytes as its length says, one to three (R101, R103). -/

namespace Sys2Proof
namespace Laws
namespace EncodeLength

/-- The encoding has the length the decoder gives the instruction, one to three bytes. -/
def Statement (i : Instr) : Prop := (encode i).length = i.length ∧ 1 ≤ i.length ∧ i.length ≤ 3

/-- A fixed length: the three parts at once. -/
theorem of_length {i : Instr} {n : Nat} (h1 : (encode i).length = n) (h2 : i.length = n) (h3 : 1 ≤ n ∧ n ≤ 3) :
    Statement i := by
  subst h2; exact ⟨h1, h3⟩

theorem nop : Statement (.nop) := of_length (n := 1) rfl rfl (by decide)
theorem ld_BC_nn (nn : Word) : Statement (.ld_BC_nn nn) := of_length (n := 3) rfl rfl (by decide)
theorem ld_mBC_A : Statement (.ld_mBC_A) := of_length (n := 1) rfl rfl (by decide)
theorem inc_BC : Statement (.inc_BC) := of_length (n := 1) rfl rfl (by decide)
theorem inc_B : Statement (.inc_B) := of_length (n := 1) rfl rfl (by decide)
theorem dec_B : Statement (.dec_B) := of_length (n := 1) rfl rfl (by decide)
theorem ld_B_n (n : Byte) : Statement (.ld_B_n n) := of_length (n := 2) rfl rfl (by decide)
theorem rlca : Statement (.rlca) := of_length (n := 1) rfl rfl (by decide)
theorem ld_mnn_SP (nn : Word) : Statement (.ld_mnn_SP nn) := of_length (n := 3) rfl rfl (by decide)
theorem add_HL_BC : Statement (.add_HL_BC) := of_length (n := 1) rfl rfl (by decide)
theorem ld_A_mBC : Statement (.ld_A_mBC) := of_length (n := 1) rfl rfl (by decide)
theorem dec_BC : Statement (.dec_BC) := of_length (n := 1) rfl rfl (by decide)
theorem inc_C : Statement (.inc_C) := of_length (n := 1) rfl rfl (by decide)
theorem dec_C : Statement (.dec_C) := of_length (n := 1) rfl rfl (by decide)
theorem ld_C_n (n : Byte) : Statement (.ld_C_n n) := of_length (n := 2) rfl rfl (by decide)
theorem rrca : Statement (.rrca) := of_length (n := 1) rfl rfl (by decide)
theorem stop (pad : Byte) : Statement (.stop pad) := of_length (n := 2) rfl rfl (by decide)
theorem ld_DE_nn (nn : Word) : Statement (.ld_DE_nn nn) := of_length (n := 3) rfl rfl (by decide)
theorem ld_mDE_A : Statement (.ld_mDE_A) := of_length (n := 1) rfl rfl (by decide)
theorem inc_DE : Statement (.inc_DE) := of_length (n := 1) rfl rfl (by decide)
theorem inc_D : Statement (.inc_D) := of_length (n := 1) rfl rfl (by decide)
theorem dec_D : Statement (.dec_D) := of_length (n := 1) rfl rfl (by decide)
theorem ld_D_n (n : Byte) : Statement (.ld_D_n n) := of_length (n := 2) rfl rfl (by decide)
theorem rla : Statement (.rla) := of_length (n := 1) rfl rfl (by decide)
theorem jr_e (e : Byte) : Statement (.jr_e e) := of_length (n := 2) rfl rfl (by decide)
theorem add_HL_DE : Statement (.add_HL_DE) := of_length (n := 1) rfl rfl (by decide)
theorem ld_A_mDE : Statement (.ld_A_mDE) := of_length (n := 1) rfl rfl (by decide)
theorem dec_DE : Statement (.dec_DE) := of_length (n := 1) rfl rfl (by decide)
theorem inc_E : Statement (.inc_E) := of_length (n := 1) rfl rfl (by decide)
theorem dec_E : Statement (.dec_E) := of_length (n := 1) rfl rfl (by decide)
theorem ld_E_n (n : Byte) : Statement (.ld_E_n n) := of_length (n := 2) rfl rfl (by decide)
theorem rra : Statement (.rra) := of_length (n := 1) rfl rfl (by decide)
theorem jr_NZ_e (e : Byte) : Statement (.jr_NZ_e e) := of_length (n := 2) rfl rfl (by decide)
theorem ld_HL_nn (nn : Word) : Statement (.ld_HL_nn nn) := of_length (n := 3) rfl rfl (by decide)
theorem ld_mHLinc_A : Statement (.ld_mHLinc_A) := of_length (n := 1) rfl rfl (by decide)
theorem inc_HL : Statement (.inc_HL) := of_length (n := 1) rfl rfl (by decide)
theorem inc_H : Statement (.inc_H) := of_length (n := 1) rfl rfl (by decide)
theorem dec_H : Statement (.dec_H) := of_length (n := 1) rfl rfl (by decide)
theorem ld_H_n (n : Byte) : Statement (.ld_H_n n) := of_length (n := 2) rfl rfl (by decide)
theorem daa : Statement (.daa) := of_length (n := 1) rfl rfl (by decide)
theorem jr_Z_e (e : Byte) : Statement (.jr_Z_e e) := of_length (n := 2) rfl rfl (by decide)
theorem add_HL_HL : Statement (.add_HL_HL) := of_length (n := 1) rfl rfl (by decide)
theorem ld_A_mHLinc : Statement (.ld_A_mHLinc) := of_length (n := 1) rfl rfl (by decide)
theorem dec_HL : Statement (.dec_HL) := of_length (n := 1) rfl rfl (by decide)
theorem inc_L : Statement (.inc_L) := of_length (n := 1) rfl rfl (by decide)
theorem dec_L : Statement (.dec_L) := of_length (n := 1) rfl rfl (by decide)
theorem ld_L_n (n : Byte) : Statement (.ld_L_n n) := of_length (n := 2) rfl rfl (by decide)
theorem cpl : Statement (.cpl) := of_length (n := 1) rfl rfl (by decide)
theorem jr_NC_e (e : Byte) : Statement (.jr_NC_e e) := of_length (n := 2) rfl rfl (by decide)
theorem ld_SP_nn (nn : Word) : Statement (.ld_SP_nn nn) := of_length (n := 3) rfl rfl (by decide)
theorem ld_mHLdec_A : Statement (.ld_mHLdec_A) := of_length (n := 1) rfl rfl (by decide)
theorem inc_SP : Statement (.inc_SP) := of_length (n := 1) rfl rfl (by decide)
theorem inc_mHL : Statement (.inc_mHL) := of_length (n := 1) rfl rfl (by decide)
theorem dec_mHL : Statement (.dec_mHL) := of_length (n := 1) rfl rfl (by decide)
theorem ld_mHL_n (n : Byte) : Statement (.ld_mHL_n n) := of_length (n := 2) rfl rfl (by decide)
theorem scf : Statement (.scf) := of_length (n := 1) rfl rfl (by decide)
theorem jr_C_e (e : Byte) : Statement (.jr_C_e e) := of_length (n := 2) rfl rfl (by decide)
theorem add_HL_SP : Statement (.add_HL_SP) := of_length (n := 1) rfl rfl (by decide)
theorem ld_A_mHLdec : Statement (.ld_A_mHLdec) := of_length (n := 1) rfl rfl (by decide)
theorem dec_SP : Statement (.dec_SP) := of_length (n := 1) rfl rfl (by decide)
theorem inc_A : Statement (.inc_A) := of_length (n := 1) rfl rfl (by decide)
theorem dec_A : Statement (.dec_A) := of_length (n := 1) rfl rfl (by decide)
theorem ld_A_n (n : Byte) : Statement (.ld_A_n n) := of_length (n := 2) rfl rfl (by decide)
theorem ccf : Statement (.ccf) := of_length (n := 1) rfl rfl (by decide)
theorem ld_B_B : Statement (.ld_B_B) := of_length (n := 1) rfl rfl (by decide)
theorem ld_B_C : Statement (.ld_B_C) := of_length (n := 1) rfl rfl (by decide)
theorem ld_B_D : Statement (.ld_B_D) := of_length (n := 1) rfl rfl (by decide)
theorem ld_B_E : Statement (.ld_B_E) := of_length (n := 1) rfl rfl (by decide)
theorem ld_B_H : Statement (.ld_B_H) := of_length (n := 1) rfl rfl (by decide)
theorem ld_B_L : Statement (.ld_B_L) := of_length (n := 1) rfl rfl (by decide)
theorem ld_B_mHL : Statement (.ld_B_mHL) := of_length (n := 1) rfl rfl (by decide)
theorem ld_B_A : Statement (.ld_B_A) := of_length (n := 1) rfl rfl (by decide)
theorem ld_C_B : Statement (.ld_C_B) := of_length (n := 1) rfl rfl (by decide)
theorem ld_C_C : Statement (.ld_C_C) := of_length (n := 1) rfl rfl (by decide)
theorem ld_C_D : Statement (.ld_C_D) := of_length (n := 1) rfl rfl (by decide)
theorem ld_C_E : Statement (.ld_C_E) := of_length (n := 1) rfl rfl (by decide)
theorem ld_C_H : Statement (.ld_C_H) := of_length (n := 1) rfl rfl (by decide)
theorem ld_C_L : Statement (.ld_C_L) := of_length (n := 1) rfl rfl (by decide)
theorem ld_C_mHL : Statement (.ld_C_mHL) := of_length (n := 1) rfl rfl (by decide)
theorem ld_C_A : Statement (.ld_C_A) := of_length (n := 1) rfl rfl (by decide)
theorem ld_D_B : Statement (.ld_D_B) := of_length (n := 1) rfl rfl (by decide)
theorem ld_D_C : Statement (.ld_D_C) := of_length (n := 1) rfl rfl (by decide)
theorem ld_D_D : Statement (.ld_D_D) := of_length (n := 1) rfl rfl (by decide)
theorem ld_D_E : Statement (.ld_D_E) := of_length (n := 1) rfl rfl (by decide)
theorem ld_D_H : Statement (.ld_D_H) := of_length (n := 1) rfl rfl (by decide)
theorem ld_D_L : Statement (.ld_D_L) := of_length (n := 1) rfl rfl (by decide)
theorem ld_D_mHL : Statement (.ld_D_mHL) := of_length (n := 1) rfl rfl (by decide)
theorem ld_D_A : Statement (.ld_D_A) := of_length (n := 1) rfl rfl (by decide)
theorem ld_E_B : Statement (.ld_E_B) := of_length (n := 1) rfl rfl (by decide)
theorem ld_E_C : Statement (.ld_E_C) := of_length (n := 1) rfl rfl (by decide)
theorem ld_E_D : Statement (.ld_E_D) := of_length (n := 1) rfl rfl (by decide)
theorem ld_E_E : Statement (.ld_E_E) := of_length (n := 1) rfl rfl (by decide)
theorem ld_E_H : Statement (.ld_E_H) := of_length (n := 1) rfl rfl (by decide)
theorem ld_E_L : Statement (.ld_E_L) := of_length (n := 1) rfl rfl (by decide)
theorem ld_E_mHL : Statement (.ld_E_mHL) := of_length (n := 1) rfl rfl (by decide)
theorem ld_E_A : Statement (.ld_E_A) := of_length (n := 1) rfl rfl (by decide)
theorem ld_H_B : Statement (.ld_H_B) := of_length (n := 1) rfl rfl (by decide)
theorem ld_H_C : Statement (.ld_H_C) := of_length (n := 1) rfl rfl (by decide)
theorem ld_H_D : Statement (.ld_H_D) := of_length (n := 1) rfl rfl (by decide)
theorem ld_H_E : Statement (.ld_H_E) := of_length (n := 1) rfl rfl (by decide)
theorem ld_H_H : Statement (.ld_H_H) := of_length (n := 1) rfl rfl (by decide)
theorem ld_H_L : Statement (.ld_H_L) := of_length (n := 1) rfl rfl (by decide)
theorem ld_H_mHL : Statement (.ld_H_mHL) := of_length (n := 1) rfl rfl (by decide)
theorem ld_H_A : Statement (.ld_H_A) := of_length (n := 1) rfl rfl (by decide)
theorem ld_L_B : Statement (.ld_L_B) := of_length (n := 1) rfl rfl (by decide)
theorem ld_L_C : Statement (.ld_L_C) := of_length (n := 1) rfl rfl (by decide)
theorem ld_L_D : Statement (.ld_L_D) := of_length (n := 1) rfl rfl (by decide)
theorem ld_L_E : Statement (.ld_L_E) := of_length (n := 1) rfl rfl (by decide)
theorem ld_L_H : Statement (.ld_L_H) := of_length (n := 1) rfl rfl (by decide)
theorem ld_L_L : Statement (.ld_L_L) := of_length (n := 1) rfl rfl (by decide)
theorem ld_L_mHL : Statement (.ld_L_mHL) := of_length (n := 1) rfl rfl (by decide)
theorem ld_L_A : Statement (.ld_L_A) := of_length (n := 1) rfl rfl (by decide)
theorem ld_mHL_B : Statement (.ld_mHL_B) := of_length (n := 1) rfl rfl (by decide)
theorem ld_mHL_C : Statement (.ld_mHL_C) := of_length (n := 1) rfl rfl (by decide)
theorem ld_mHL_D : Statement (.ld_mHL_D) := of_length (n := 1) rfl rfl (by decide)
theorem ld_mHL_E : Statement (.ld_mHL_E) := of_length (n := 1) rfl rfl (by decide)
theorem ld_mHL_H : Statement (.ld_mHL_H) := of_length (n := 1) rfl rfl (by decide)
theorem ld_mHL_L : Statement (.ld_mHL_L) := of_length (n := 1) rfl rfl (by decide)
theorem halt : Statement (.halt) := of_length (n := 1) rfl rfl (by decide)
theorem ld_mHL_A : Statement (.ld_mHL_A) := of_length (n := 1) rfl rfl (by decide)
theorem ld_A_B : Statement (.ld_A_B) := of_length (n := 1) rfl rfl (by decide)
theorem ld_A_C : Statement (.ld_A_C) := of_length (n := 1) rfl rfl (by decide)
theorem ld_A_D : Statement (.ld_A_D) := of_length (n := 1) rfl rfl (by decide)
theorem ld_A_E : Statement (.ld_A_E) := of_length (n := 1) rfl rfl (by decide)
theorem ld_A_H : Statement (.ld_A_H) := of_length (n := 1) rfl rfl (by decide)
theorem ld_A_L : Statement (.ld_A_L) := of_length (n := 1) rfl rfl (by decide)
theorem ld_A_mHL : Statement (.ld_A_mHL) := of_length (n := 1) rfl rfl (by decide)
theorem ld_A_A : Statement (.ld_A_A) := of_length (n := 1) rfl rfl (by decide)
theorem add_A_B : Statement (.add_A_B) := of_length (n := 1) rfl rfl (by decide)
theorem add_A_C : Statement (.add_A_C) := of_length (n := 1) rfl rfl (by decide)
theorem add_A_D : Statement (.add_A_D) := of_length (n := 1) rfl rfl (by decide)
theorem add_A_E : Statement (.add_A_E) := of_length (n := 1) rfl rfl (by decide)
theorem add_A_H : Statement (.add_A_H) := of_length (n := 1) rfl rfl (by decide)
theorem add_A_L : Statement (.add_A_L) := of_length (n := 1) rfl rfl (by decide)
theorem add_A_mHL : Statement (.add_A_mHL) := of_length (n := 1) rfl rfl (by decide)
theorem add_A_A : Statement (.add_A_A) := of_length (n := 1) rfl rfl (by decide)
theorem adc_A_B : Statement (.adc_A_B) := of_length (n := 1) rfl rfl (by decide)
theorem adc_A_C : Statement (.adc_A_C) := of_length (n := 1) rfl rfl (by decide)
theorem adc_A_D : Statement (.adc_A_D) := of_length (n := 1) rfl rfl (by decide)
theorem adc_A_E : Statement (.adc_A_E) := of_length (n := 1) rfl rfl (by decide)
theorem adc_A_H : Statement (.adc_A_H) := of_length (n := 1) rfl rfl (by decide)
theorem adc_A_L : Statement (.adc_A_L) := of_length (n := 1) rfl rfl (by decide)
theorem adc_A_mHL : Statement (.adc_A_mHL) := of_length (n := 1) rfl rfl (by decide)
theorem adc_A_A : Statement (.adc_A_A) := of_length (n := 1) rfl rfl (by decide)
theorem sub_B : Statement (.sub_B) := of_length (n := 1) rfl rfl (by decide)
theorem sub_C : Statement (.sub_C) := of_length (n := 1) rfl rfl (by decide)
theorem sub_D : Statement (.sub_D) := of_length (n := 1) rfl rfl (by decide)
theorem sub_E : Statement (.sub_E) := of_length (n := 1) rfl rfl (by decide)
theorem sub_H : Statement (.sub_H) := of_length (n := 1) rfl rfl (by decide)
theorem sub_L : Statement (.sub_L) := of_length (n := 1) rfl rfl (by decide)
theorem sub_mHL : Statement (.sub_mHL) := of_length (n := 1) rfl rfl (by decide)
theorem sub_A : Statement (.sub_A) := of_length (n := 1) rfl rfl (by decide)
theorem sbc_A_B : Statement (.sbc_A_B) := of_length (n := 1) rfl rfl (by decide)
theorem sbc_A_C : Statement (.sbc_A_C) := of_length (n := 1) rfl rfl (by decide)
theorem sbc_A_D : Statement (.sbc_A_D) := of_length (n := 1) rfl rfl (by decide)
theorem sbc_A_E : Statement (.sbc_A_E) := of_length (n := 1) rfl rfl (by decide)
theorem sbc_A_H : Statement (.sbc_A_H) := of_length (n := 1) rfl rfl (by decide)
theorem sbc_A_L : Statement (.sbc_A_L) := of_length (n := 1) rfl rfl (by decide)
theorem sbc_A_mHL : Statement (.sbc_A_mHL) := of_length (n := 1) rfl rfl (by decide)
theorem sbc_A_A : Statement (.sbc_A_A) := of_length (n := 1) rfl rfl (by decide)
theorem and_B : Statement (.and_B) := of_length (n := 1) rfl rfl (by decide)
theorem and_C : Statement (.and_C) := of_length (n := 1) rfl rfl (by decide)
theorem and_D : Statement (.and_D) := of_length (n := 1) rfl rfl (by decide)
theorem and_E : Statement (.and_E) := of_length (n := 1) rfl rfl (by decide)
theorem and_H : Statement (.and_H) := of_length (n := 1) rfl rfl (by decide)
theorem and_L : Statement (.and_L) := of_length (n := 1) rfl rfl (by decide)
theorem and_mHL : Statement (.and_mHL) := of_length (n := 1) rfl rfl (by decide)
theorem and_A : Statement (.and_A) := of_length (n := 1) rfl rfl (by decide)
theorem xor_B : Statement (.xor_B) := of_length (n := 1) rfl rfl (by decide)
theorem xor_C : Statement (.xor_C) := of_length (n := 1) rfl rfl (by decide)
theorem xor_D : Statement (.xor_D) := of_length (n := 1) rfl rfl (by decide)
theorem xor_E : Statement (.xor_E) := of_length (n := 1) rfl rfl (by decide)
theorem xor_H : Statement (.xor_H) := of_length (n := 1) rfl rfl (by decide)
theorem xor_L : Statement (.xor_L) := of_length (n := 1) rfl rfl (by decide)
theorem xor_mHL : Statement (.xor_mHL) := of_length (n := 1) rfl rfl (by decide)
theorem xor_A : Statement (.xor_A) := of_length (n := 1) rfl rfl (by decide)
theorem or_B : Statement (.or_B) := of_length (n := 1) rfl rfl (by decide)
theorem or_C : Statement (.or_C) := of_length (n := 1) rfl rfl (by decide)
theorem or_D : Statement (.or_D) := of_length (n := 1) rfl rfl (by decide)
theorem or_E : Statement (.or_E) := of_length (n := 1) rfl rfl (by decide)
theorem or_H : Statement (.or_H) := of_length (n := 1) rfl rfl (by decide)
theorem or_L : Statement (.or_L) := of_length (n := 1) rfl rfl (by decide)
theorem or_mHL : Statement (.or_mHL) := of_length (n := 1) rfl rfl (by decide)
theorem or_A : Statement (.or_A) := of_length (n := 1) rfl rfl (by decide)
theorem cp_B : Statement (.cp_B) := of_length (n := 1) rfl rfl (by decide)
theorem cp_C : Statement (.cp_C) := of_length (n := 1) rfl rfl (by decide)
theorem cp_D : Statement (.cp_D) := of_length (n := 1) rfl rfl (by decide)
theorem cp_E : Statement (.cp_E) := of_length (n := 1) rfl rfl (by decide)
theorem cp_H : Statement (.cp_H) := of_length (n := 1) rfl rfl (by decide)
theorem cp_L : Statement (.cp_L) := of_length (n := 1) rfl rfl (by decide)
theorem cp_mHL : Statement (.cp_mHL) := of_length (n := 1) rfl rfl (by decide)
theorem cp_A : Statement (.cp_A) := of_length (n := 1) rfl rfl (by decide)
theorem ret_NZ : Statement (.ret_NZ) := of_length (n := 1) rfl rfl (by decide)
theorem pop_BC : Statement (.pop_BC) := of_length (n := 1) rfl rfl (by decide)
theorem jp_NZ_nn (nn : Word) : Statement (.jp_NZ_nn nn) := of_length (n := 3) rfl rfl (by decide)
theorem jp_nn (nn : Word) : Statement (.jp_nn nn) := of_length (n := 3) rfl rfl (by decide)
theorem call_NZ_nn (nn : Word) : Statement (.call_NZ_nn nn) := of_length (n := 3) rfl rfl (by decide)
theorem push_BC : Statement (.push_BC) := of_length (n := 1) rfl rfl (by decide)
theorem add_A_n (n : Byte) : Statement (.add_A_n n) := of_length (n := 2) rfl rfl (by decide)
theorem rst_00H : Statement (.rst_00H) := of_length (n := 1) rfl rfl (by decide)
theorem ret_Z : Statement (.ret_Z) := of_length (n := 1) rfl rfl (by decide)
theorem ret : Statement (.ret) := of_length (n := 1) rfl rfl (by decide)
theorem jp_Z_nn (nn : Word) : Statement (.jp_Z_nn nn) := of_length (n := 3) rfl rfl (by decide)
theorem call_Z_nn (nn : Word) : Statement (.call_Z_nn nn) := of_length (n := 3) rfl rfl (by decide)
theorem call_nn (nn : Word) : Statement (.call_nn nn) := of_length (n := 3) rfl rfl (by decide)
theorem adc_A_n (n : Byte) : Statement (.adc_A_n n) := of_length (n := 2) rfl rfl (by decide)
theorem rst_08H : Statement (.rst_08H) := of_length (n := 1) rfl rfl (by decide)
theorem ret_NC : Statement (.ret_NC) := of_length (n := 1) rfl rfl (by decide)
theorem pop_DE : Statement (.pop_DE) := of_length (n := 1) rfl rfl (by decide)
theorem jp_NC_nn (nn : Word) : Statement (.jp_NC_nn nn) := of_length (n := 3) rfl rfl (by decide)
theorem undefined (op : Byte) : Statement (.undefined op) := of_length (n := 1) rfl rfl (by decide)
theorem call_NC_nn (nn : Word) : Statement (.call_NC_nn nn) := of_length (n := 3) rfl rfl (by decide)
theorem push_DE : Statement (.push_DE) := of_length (n := 1) rfl rfl (by decide)
theorem sub_n (n : Byte) : Statement (.sub_n n) := of_length (n := 2) rfl rfl (by decide)
theorem rst_10H : Statement (.rst_10H) := of_length (n := 1) rfl rfl (by decide)
theorem ret_C : Statement (.ret_C) := of_length (n := 1) rfl rfl (by decide)
theorem reti : Statement (.reti) := of_length (n := 1) rfl rfl (by decide)
theorem jp_C_nn (nn : Word) : Statement (.jp_C_nn nn) := of_length (n := 3) rfl rfl (by decide)
theorem call_C_nn (nn : Word) : Statement (.call_C_nn nn) := of_length (n := 3) rfl rfl (by decide)
theorem sbc_A_n (n : Byte) : Statement (.sbc_A_n n) := of_length (n := 2) rfl rfl (by decide)
theorem rst_18H : Statement (.rst_18H) := of_length (n := 1) rfl rfl (by decide)
theorem ldh_mn_A (n : Byte) : Statement (.ldh_mn_A n) := of_length (n := 2) rfl rfl (by decide)
theorem pop_HL : Statement (.pop_HL) := of_length (n := 1) rfl rfl (by decide)
theorem ld_mC_A : Statement (.ld_mC_A) := of_length (n := 1) rfl rfl (by decide)
theorem push_HL : Statement (.push_HL) := of_length (n := 1) rfl rfl (by decide)
theorem and_n (n : Byte) : Statement (.and_n n) := of_length (n := 2) rfl rfl (by decide)
theorem rst_20H : Statement (.rst_20H) := of_length (n := 1) rfl rfl (by decide)
theorem add_SP_e (e : Byte) : Statement (.add_SP_e e) := of_length (n := 2) rfl rfl (by decide)
theorem jp_HL : Statement (.jp_HL) := of_length (n := 1) rfl rfl (by decide)
theorem ld_mnn_A (nn : Word) : Statement (.ld_mnn_A nn) := of_length (n := 3) rfl rfl (by decide)
theorem xor_n (n : Byte) : Statement (.xor_n n) := of_length (n := 2) rfl rfl (by decide)
theorem rst_28H : Statement (.rst_28H) := of_length (n := 1) rfl rfl (by decide)
theorem ldh_A_mn (n : Byte) : Statement (.ldh_A_mn n) := of_length (n := 2) rfl rfl (by decide)
theorem pop_AF : Statement (.pop_AF) := of_length (n := 1) rfl rfl (by decide)
theorem ld_A_mC : Statement (.ld_A_mC) := of_length (n := 1) rfl rfl (by decide)
theorem di : Statement (.di) := of_length (n := 1) rfl rfl (by decide)
theorem push_AF : Statement (.push_AF) := of_length (n := 1) rfl rfl (by decide)
theorem or_n (n : Byte) : Statement (.or_n n) := of_length (n := 2) rfl rfl (by decide)
theorem rst_30H : Statement (.rst_30H) := of_length (n := 1) rfl rfl (by decide)
theorem ld_HL_SPe (e : Byte) : Statement (.ld_HL_SPe e) := of_length (n := 2) rfl rfl (by decide)
theorem ld_SP_HL : Statement (.ld_SP_HL) := of_length (n := 1) rfl rfl (by decide)
theorem ld_A_mnn (nn : Word) : Statement (.ld_A_mnn nn) := of_length (n := 3) rfl rfl (by decide)
theorem ei : Statement (.ei) := of_length (n := 1) rfl rfl (by decide)
theorem cp_n (n : Byte) : Statement (.cp_n n) := of_length (n := 2) rfl rfl (by decide)
theorem rst_38H : Statement (.rst_38H) := of_length (n := 1) rfl rfl (by decide)
theorem rlc_B : Statement (.rlc_B) := of_length (n := 2) rfl rfl (by decide)
theorem rlc_C : Statement (.rlc_C) := of_length (n := 2) rfl rfl (by decide)
theorem rlc_D : Statement (.rlc_D) := of_length (n := 2) rfl rfl (by decide)
theorem rlc_E : Statement (.rlc_E) := of_length (n := 2) rfl rfl (by decide)
theorem rlc_H : Statement (.rlc_H) := of_length (n := 2) rfl rfl (by decide)
theorem rlc_L : Statement (.rlc_L) := of_length (n := 2) rfl rfl (by decide)
theorem rlc_mHL : Statement (.rlc_mHL) := of_length (n := 2) rfl rfl (by decide)
theorem rlc_A : Statement (.rlc_A) := of_length (n := 2) rfl rfl (by decide)
theorem rrc_B : Statement (.rrc_B) := of_length (n := 2) rfl rfl (by decide)
theorem rrc_C : Statement (.rrc_C) := of_length (n := 2) rfl rfl (by decide)
theorem rrc_D : Statement (.rrc_D) := of_length (n := 2) rfl rfl (by decide)
theorem rrc_E : Statement (.rrc_E) := of_length (n := 2) rfl rfl (by decide)
theorem rrc_H : Statement (.rrc_H) := of_length (n := 2) rfl rfl (by decide)
theorem rrc_L : Statement (.rrc_L) := of_length (n := 2) rfl rfl (by decide)
theorem rrc_mHL : Statement (.rrc_mHL) := of_length (n := 2) rfl rfl (by decide)
theorem rrc_A : Statement (.rrc_A) := of_length (n := 2) rfl rfl (by decide)
theorem rl_B : Statement (.rl_B) := of_length (n := 2) rfl rfl (by decide)
theorem rl_C : Statement (.rl_C) := of_length (n := 2) rfl rfl (by decide)
theorem rl_D : Statement (.rl_D) := of_length (n := 2) rfl rfl (by decide)
theorem rl_E : Statement (.rl_E) := of_length (n := 2) rfl rfl (by decide)
theorem rl_H : Statement (.rl_H) := of_length (n := 2) rfl rfl (by decide)
theorem rl_L : Statement (.rl_L) := of_length (n := 2) rfl rfl (by decide)
theorem rl_mHL : Statement (.rl_mHL) := of_length (n := 2) rfl rfl (by decide)
theorem rl_A : Statement (.rl_A) := of_length (n := 2) rfl rfl (by decide)
theorem rr_B : Statement (.rr_B) := of_length (n := 2) rfl rfl (by decide)
theorem rr_C : Statement (.rr_C) := of_length (n := 2) rfl rfl (by decide)
theorem rr_D : Statement (.rr_D) := of_length (n := 2) rfl rfl (by decide)
theorem rr_E : Statement (.rr_E) := of_length (n := 2) rfl rfl (by decide)
theorem rr_H : Statement (.rr_H) := of_length (n := 2) rfl rfl (by decide)
theorem rr_L : Statement (.rr_L) := of_length (n := 2) rfl rfl (by decide)
theorem rr_mHL : Statement (.rr_mHL) := of_length (n := 2) rfl rfl (by decide)
theorem rr_A : Statement (.rr_A) := of_length (n := 2) rfl rfl (by decide)
theorem sla_B : Statement (.sla_B) := of_length (n := 2) rfl rfl (by decide)
theorem sla_C : Statement (.sla_C) := of_length (n := 2) rfl rfl (by decide)
theorem sla_D : Statement (.sla_D) := of_length (n := 2) rfl rfl (by decide)
theorem sla_E : Statement (.sla_E) := of_length (n := 2) rfl rfl (by decide)
theorem sla_H : Statement (.sla_H) := of_length (n := 2) rfl rfl (by decide)
theorem sla_L : Statement (.sla_L) := of_length (n := 2) rfl rfl (by decide)
theorem sla_mHL : Statement (.sla_mHL) := of_length (n := 2) rfl rfl (by decide)
theorem sla_A : Statement (.sla_A) := of_length (n := 2) rfl rfl (by decide)
theorem sra_B : Statement (.sra_B) := of_length (n := 2) rfl rfl (by decide)
theorem sra_C : Statement (.sra_C) := of_length (n := 2) rfl rfl (by decide)
theorem sra_D : Statement (.sra_D) := of_length (n := 2) rfl rfl (by decide)
theorem sra_E : Statement (.sra_E) := of_length (n := 2) rfl rfl (by decide)
theorem sra_H : Statement (.sra_H) := of_length (n := 2) rfl rfl (by decide)
theorem sra_L : Statement (.sra_L) := of_length (n := 2) rfl rfl (by decide)
theorem sra_mHL : Statement (.sra_mHL) := of_length (n := 2) rfl rfl (by decide)
theorem sra_A : Statement (.sra_A) := of_length (n := 2) rfl rfl (by decide)
theorem swap_B : Statement (.swap_B) := of_length (n := 2) rfl rfl (by decide)
theorem swap_C : Statement (.swap_C) := of_length (n := 2) rfl rfl (by decide)
theorem swap_D : Statement (.swap_D) := of_length (n := 2) rfl rfl (by decide)
theorem swap_E : Statement (.swap_E) := of_length (n := 2) rfl rfl (by decide)
theorem swap_H : Statement (.swap_H) := of_length (n := 2) rfl rfl (by decide)
theorem swap_L : Statement (.swap_L) := of_length (n := 2) rfl rfl (by decide)
theorem swap_mHL : Statement (.swap_mHL) := of_length (n := 2) rfl rfl (by decide)
theorem swap_A : Statement (.swap_A) := of_length (n := 2) rfl rfl (by decide)
theorem srl_B : Statement (.srl_B) := of_length (n := 2) rfl rfl (by decide)
theorem srl_C : Statement (.srl_C) := of_length (n := 2) rfl rfl (by decide)
theorem srl_D : Statement (.srl_D) := of_length (n := 2) rfl rfl (by decide)
theorem srl_E : Statement (.srl_E) := of_length (n := 2) rfl rfl (by decide)
theorem srl_H : Statement (.srl_H) := of_length (n := 2) rfl rfl (by decide)
theorem srl_L : Statement (.srl_L) := of_length (n := 2) rfl rfl (by decide)
theorem srl_mHL : Statement (.srl_mHL) := of_length (n := 2) rfl rfl (by decide)
theorem srl_A : Statement (.srl_A) := of_length (n := 2) rfl rfl (by decide)
theorem bit_0_B : Statement (.bit_0_B) := of_length (n := 2) rfl rfl (by decide)
theorem bit_0_C : Statement (.bit_0_C) := of_length (n := 2) rfl rfl (by decide)
theorem bit_0_D : Statement (.bit_0_D) := of_length (n := 2) rfl rfl (by decide)
theorem bit_0_E : Statement (.bit_0_E) := of_length (n := 2) rfl rfl (by decide)
theorem bit_0_H : Statement (.bit_0_H) := of_length (n := 2) rfl rfl (by decide)
theorem bit_0_L : Statement (.bit_0_L) := of_length (n := 2) rfl rfl (by decide)
theorem bit_0_mHL : Statement (.bit_0_mHL) := of_length (n := 2) rfl rfl (by decide)
theorem bit_0_A : Statement (.bit_0_A) := of_length (n := 2) rfl rfl (by decide)
theorem bit_1_B : Statement (.bit_1_B) := of_length (n := 2) rfl rfl (by decide)
theorem bit_1_C : Statement (.bit_1_C) := of_length (n := 2) rfl rfl (by decide)
theorem bit_1_D : Statement (.bit_1_D) := of_length (n := 2) rfl rfl (by decide)
theorem bit_1_E : Statement (.bit_1_E) := of_length (n := 2) rfl rfl (by decide)
theorem bit_1_H : Statement (.bit_1_H) := of_length (n := 2) rfl rfl (by decide)
theorem bit_1_L : Statement (.bit_1_L) := of_length (n := 2) rfl rfl (by decide)
theorem bit_1_mHL : Statement (.bit_1_mHL) := of_length (n := 2) rfl rfl (by decide)
theorem bit_1_A : Statement (.bit_1_A) := of_length (n := 2) rfl rfl (by decide)
theorem bit_2_B : Statement (.bit_2_B) := of_length (n := 2) rfl rfl (by decide)
theorem bit_2_C : Statement (.bit_2_C) := of_length (n := 2) rfl rfl (by decide)
theorem bit_2_D : Statement (.bit_2_D) := of_length (n := 2) rfl rfl (by decide)
theorem bit_2_E : Statement (.bit_2_E) := of_length (n := 2) rfl rfl (by decide)
theorem bit_2_H : Statement (.bit_2_H) := of_length (n := 2) rfl rfl (by decide)
theorem bit_2_L : Statement (.bit_2_L) := of_length (n := 2) rfl rfl (by decide)
theorem bit_2_mHL : Statement (.bit_2_mHL) := of_length (n := 2) rfl rfl (by decide)
theorem bit_2_A : Statement (.bit_2_A) := of_length (n := 2) rfl rfl (by decide)
theorem bit_3_B : Statement (.bit_3_B) := of_length (n := 2) rfl rfl (by decide)
theorem bit_3_C : Statement (.bit_3_C) := of_length (n := 2) rfl rfl (by decide)
theorem bit_3_D : Statement (.bit_3_D) := of_length (n := 2) rfl rfl (by decide)
theorem bit_3_E : Statement (.bit_3_E) := of_length (n := 2) rfl rfl (by decide)
theorem bit_3_H : Statement (.bit_3_H) := of_length (n := 2) rfl rfl (by decide)
theorem bit_3_L : Statement (.bit_3_L) := of_length (n := 2) rfl rfl (by decide)
theorem bit_3_mHL : Statement (.bit_3_mHL) := of_length (n := 2) rfl rfl (by decide)
theorem bit_3_A : Statement (.bit_3_A) := of_length (n := 2) rfl rfl (by decide)
theorem bit_4_B : Statement (.bit_4_B) := of_length (n := 2) rfl rfl (by decide)
theorem bit_4_C : Statement (.bit_4_C) := of_length (n := 2) rfl rfl (by decide)
theorem bit_4_D : Statement (.bit_4_D) := of_length (n := 2) rfl rfl (by decide)
theorem bit_4_E : Statement (.bit_4_E) := of_length (n := 2) rfl rfl (by decide)
theorem bit_4_H : Statement (.bit_4_H) := of_length (n := 2) rfl rfl (by decide)
theorem bit_4_L : Statement (.bit_4_L) := of_length (n := 2) rfl rfl (by decide)
theorem bit_4_mHL : Statement (.bit_4_mHL) := of_length (n := 2) rfl rfl (by decide)
theorem bit_4_A : Statement (.bit_4_A) := of_length (n := 2) rfl rfl (by decide)
theorem bit_5_B : Statement (.bit_5_B) := of_length (n := 2) rfl rfl (by decide)
theorem bit_5_C : Statement (.bit_5_C) := of_length (n := 2) rfl rfl (by decide)
theorem bit_5_D : Statement (.bit_5_D) := of_length (n := 2) rfl rfl (by decide)
theorem bit_5_E : Statement (.bit_5_E) := of_length (n := 2) rfl rfl (by decide)
theorem bit_5_H : Statement (.bit_5_H) := of_length (n := 2) rfl rfl (by decide)
theorem bit_5_L : Statement (.bit_5_L) := of_length (n := 2) rfl rfl (by decide)
theorem bit_5_mHL : Statement (.bit_5_mHL) := of_length (n := 2) rfl rfl (by decide)
theorem bit_5_A : Statement (.bit_5_A) := of_length (n := 2) rfl rfl (by decide)
theorem bit_6_B : Statement (.bit_6_B) := of_length (n := 2) rfl rfl (by decide)
theorem bit_6_C : Statement (.bit_6_C) := of_length (n := 2) rfl rfl (by decide)
theorem bit_6_D : Statement (.bit_6_D) := of_length (n := 2) rfl rfl (by decide)
theorem bit_6_E : Statement (.bit_6_E) := of_length (n := 2) rfl rfl (by decide)
theorem bit_6_H : Statement (.bit_6_H) := of_length (n := 2) rfl rfl (by decide)
theorem bit_6_L : Statement (.bit_6_L) := of_length (n := 2) rfl rfl (by decide)
theorem bit_6_mHL : Statement (.bit_6_mHL) := of_length (n := 2) rfl rfl (by decide)
theorem bit_6_A : Statement (.bit_6_A) := of_length (n := 2) rfl rfl (by decide)
theorem bit_7_B : Statement (.bit_7_B) := of_length (n := 2) rfl rfl (by decide)
theorem bit_7_C : Statement (.bit_7_C) := of_length (n := 2) rfl rfl (by decide)
theorem bit_7_D : Statement (.bit_7_D) := of_length (n := 2) rfl rfl (by decide)
theorem bit_7_E : Statement (.bit_7_E) := of_length (n := 2) rfl rfl (by decide)
theorem bit_7_H : Statement (.bit_7_H) := of_length (n := 2) rfl rfl (by decide)
theorem bit_7_L : Statement (.bit_7_L) := of_length (n := 2) rfl rfl (by decide)
theorem bit_7_mHL : Statement (.bit_7_mHL) := of_length (n := 2) rfl rfl (by decide)
theorem bit_7_A : Statement (.bit_7_A) := of_length (n := 2) rfl rfl (by decide)
theorem res_0_B : Statement (.res_0_B) := of_length (n := 2) rfl rfl (by decide)
theorem res_0_C : Statement (.res_0_C) := of_length (n := 2) rfl rfl (by decide)
theorem res_0_D : Statement (.res_0_D) := of_length (n := 2) rfl rfl (by decide)
theorem res_0_E : Statement (.res_0_E) := of_length (n := 2) rfl rfl (by decide)
theorem res_0_H : Statement (.res_0_H) := of_length (n := 2) rfl rfl (by decide)
theorem res_0_L : Statement (.res_0_L) := of_length (n := 2) rfl rfl (by decide)
theorem res_0_mHL : Statement (.res_0_mHL) := of_length (n := 2) rfl rfl (by decide)
theorem res_0_A : Statement (.res_0_A) := of_length (n := 2) rfl rfl (by decide)
theorem res_1_B : Statement (.res_1_B) := of_length (n := 2) rfl rfl (by decide)
theorem res_1_C : Statement (.res_1_C) := of_length (n := 2) rfl rfl (by decide)
theorem res_1_D : Statement (.res_1_D) := of_length (n := 2) rfl rfl (by decide)
theorem res_1_E : Statement (.res_1_E) := of_length (n := 2) rfl rfl (by decide)
theorem res_1_H : Statement (.res_1_H) := of_length (n := 2) rfl rfl (by decide)
theorem res_1_L : Statement (.res_1_L) := of_length (n := 2) rfl rfl (by decide)
theorem res_1_mHL : Statement (.res_1_mHL) := of_length (n := 2) rfl rfl (by decide)
theorem res_1_A : Statement (.res_1_A) := of_length (n := 2) rfl rfl (by decide)
theorem res_2_B : Statement (.res_2_B) := of_length (n := 2) rfl rfl (by decide)
theorem res_2_C : Statement (.res_2_C) := of_length (n := 2) rfl rfl (by decide)
theorem res_2_D : Statement (.res_2_D) := of_length (n := 2) rfl rfl (by decide)
theorem res_2_E : Statement (.res_2_E) := of_length (n := 2) rfl rfl (by decide)
theorem res_2_H : Statement (.res_2_H) := of_length (n := 2) rfl rfl (by decide)
theorem res_2_L : Statement (.res_2_L) := of_length (n := 2) rfl rfl (by decide)
theorem res_2_mHL : Statement (.res_2_mHL) := of_length (n := 2) rfl rfl (by decide)
theorem res_2_A : Statement (.res_2_A) := of_length (n := 2) rfl rfl (by decide)
theorem res_3_B : Statement (.res_3_B) := of_length (n := 2) rfl rfl (by decide)
theorem res_3_C : Statement (.res_3_C) := of_length (n := 2) rfl rfl (by decide)
theorem res_3_D : Statement (.res_3_D) := of_length (n := 2) rfl rfl (by decide)
theorem res_3_E : Statement (.res_3_E) := of_length (n := 2) rfl rfl (by decide)
theorem res_3_H : Statement (.res_3_H) := of_length (n := 2) rfl rfl (by decide)
theorem res_3_L : Statement (.res_3_L) := of_length (n := 2) rfl rfl (by decide)
theorem res_3_mHL : Statement (.res_3_mHL) := of_length (n := 2) rfl rfl (by decide)
theorem res_3_A : Statement (.res_3_A) := of_length (n := 2) rfl rfl (by decide)
theorem res_4_B : Statement (.res_4_B) := of_length (n := 2) rfl rfl (by decide)
theorem res_4_C : Statement (.res_4_C) := of_length (n := 2) rfl rfl (by decide)
theorem res_4_D : Statement (.res_4_D) := of_length (n := 2) rfl rfl (by decide)
theorem res_4_E : Statement (.res_4_E) := of_length (n := 2) rfl rfl (by decide)
theorem res_4_H : Statement (.res_4_H) := of_length (n := 2) rfl rfl (by decide)
theorem res_4_L : Statement (.res_4_L) := of_length (n := 2) rfl rfl (by decide)
theorem res_4_mHL : Statement (.res_4_mHL) := of_length (n := 2) rfl rfl (by decide)
theorem res_4_A : Statement (.res_4_A) := of_length (n := 2) rfl rfl (by decide)
theorem res_5_B : Statement (.res_5_B) := of_length (n := 2) rfl rfl (by decide)
theorem res_5_C : Statement (.res_5_C) := of_length (n := 2) rfl rfl (by decide)
theorem res_5_D : Statement (.res_5_D) := of_length (n := 2) rfl rfl (by decide)
theorem res_5_E : Statement (.res_5_E) := of_length (n := 2) rfl rfl (by decide)
theorem res_5_H : Statement (.res_5_H) := of_length (n := 2) rfl rfl (by decide)
theorem res_5_L : Statement (.res_5_L) := of_length (n := 2) rfl rfl (by decide)
theorem res_5_mHL : Statement (.res_5_mHL) := of_length (n := 2) rfl rfl (by decide)
theorem res_5_A : Statement (.res_5_A) := of_length (n := 2) rfl rfl (by decide)
theorem res_6_B : Statement (.res_6_B) := of_length (n := 2) rfl rfl (by decide)
theorem res_6_C : Statement (.res_6_C) := of_length (n := 2) rfl rfl (by decide)
theorem res_6_D : Statement (.res_6_D) := of_length (n := 2) rfl rfl (by decide)
theorem res_6_E : Statement (.res_6_E) := of_length (n := 2) rfl rfl (by decide)
theorem res_6_H : Statement (.res_6_H) := of_length (n := 2) rfl rfl (by decide)
theorem res_6_L : Statement (.res_6_L) := of_length (n := 2) rfl rfl (by decide)
theorem res_6_mHL : Statement (.res_6_mHL) := of_length (n := 2) rfl rfl (by decide)
theorem res_6_A : Statement (.res_6_A) := of_length (n := 2) rfl rfl (by decide)
theorem res_7_B : Statement (.res_7_B) := of_length (n := 2) rfl rfl (by decide)
theorem res_7_C : Statement (.res_7_C) := of_length (n := 2) rfl rfl (by decide)
theorem res_7_D : Statement (.res_7_D) := of_length (n := 2) rfl rfl (by decide)
theorem res_7_E : Statement (.res_7_E) := of_length (n := 2) rfl rfl (by decide)
theorem res_7_H : Statement (.res_7_H) := of_length (n := 2) rfl rfl (by decide)
theorem res_7_L : Statement (.res_7_L) := of_length (n := 2) rfl rfl (by decide)
theorem res_7_mHL : Statement (.res_7_mHL) := of_length (n := 2) rfl rfl (by decide)
theorem res_7_A : Statement (.res_7_A) := of_length (n := 2) rfl rfl (by decide)
theorem set_0_B : Statement (.set_0_B) := of_length (n := 2) rfl rfl (by decide)
theorem set_0_C : Statement (.set_0_C) := of_length (n := 2) rfl rfl (by decide)
theorem set_0_D : Statement (.set_0_D) := of_length (n := 2) rfl rfl (by decide)
theorem set_0_E : Statement (.set_0_E) := of_length (n := 2) rfl rfl (by decide)
theorem set_0_H : Statement (.set_0_H) := of_length (n := 2) rfl rfl (by decide)
theorem set_0_L : Statement (.set_0_L) := of_length (n := 2) rfl rfl (by decide)
theorem set_0_mHL : Statement (.set_0_mHL) := of_length (n := 2) rfl rfl (by decide)
theorem set_0_A : Statement (.set_0_A) := of_length (n := 2) rfl rfl (by decide)
theorem set_1_B : Statement (.set_1_B) := of_length (n := 2) rfl rfl (by decide)
theorem set_1_C : Statement (.set_1_C) := of_length (n := 2) rfl rfl (by decide)
theorem set_1_D : Statement (.set_1_D) := of_length (n := 2) rfl rfl (by decide)
theorem set_1_E : Statement (.set_1_E) := of_length (n := 2) rfl rfl (by decide)
theorem set_1_H : Statement (.set_1_H) := of_length (n := 2) rfl rfl (by decide)
theorem set_1_L : Statement (.set_1_L) := of_length (n := 2) rfl rfl (by decide)
theorem set_1_mHL : Statement (.set_1_mHL) := of_length (n := 2) rfl rfl (by decide)
theorem set_1_A : Statement (.set_1_A) := of_length (n := 2) rfl rfl (by decide)
theorem set_2_B : Statement (.set_2_B) := of_length (n := 2) rfl rfl (by decide)
theorem set_2_C : Statement (.set_2_C) := of_length (n := 2) rfl rfl (by decide)
theorem set_2_D : Statement (.set_2_D) := of_length (n := 2) rfl rfl (by decide)
theorem set_2_E : Statement (.set_2_E) := of_length (n := 2) rfl rfl (by decide)
theorem set_2_H : Statement (.set_2_H) := of_length (n := 2) rfl rfl (by decide)
theorem set_2_L : Statement (.set_2_L) := of_length (n := 2) rfl rfl (by decide)
theorem set_2_mHL : Statement (.set_2_mHL) := of_length (n := 2) rfl rfl (by decide)
theorem set_2_A : Statement (.set_2_A) := of_length (n := 2) rfl rfl (by decide)
theorem set_3_B : Statement (.set_3_B) := of_length (n := 2) rfl rfl (by decide)
theorem set_3_C : Statement (.set_3_C) := of_length (n := 2) rfl rfl (by decide)
theorem set_3_D : Statement (.set_3_D) := of_length (n := 2) rfl rfl (by decide)
theorem set_3_E : Statement (.set_3_E) := of_length (n := 2) rfl rfl (by decide)
theorem set_3_H : Statement (.set_3_H) := of_length (n := 2) rfl rfl (by decide)
theorem set_3_L : Statement (.set_3_L) := of_length (n := 2) rfl rfl (by decide)
theorem set_3_mHL : Statement (.set_3_mHL) := of_length (n := 2) rfl rfl (by decide)
theorem set_3_A : Statement (.set_3_A) := of_length (n := 2) rfl rfl (by decide)
theorem set_4_B : Statement (.set_4_B) := of_length (n := 2) rfl rfl (by decide)
theorem set_4_C : Statement (.set_4_C) := of_length (n := 2) rfl rfl (by decide)
theorem set_4_D : Statement (.set_4_D) := of_length (n := 2) rfl rfl (by decide)
theorem set_4_E : Statement (.set_4_E) := of_length (n := 2) rfl rfl (by decide)
theorem set_4_H : Statement (.set_4_H) := of_length (n := 2) rfl rfl (by decide)
theorem set_4_L : Statement (.set_4_L) := of_length (n := 2) rfl rfl (by decide)
theorem set_4_mHL : Statement (.set_4_mHL) := of_length (n := 2) rfl rfl (by decide)
theorem set_4_A : Statement (.set_4_A) := of_length (n := 2) rfl rfl (by decide)
theorem set_5_B : Statement (.set_5_B) := of_length (n := 2) rfl rfl (by decide)
theorem set_5_C : Statement (.set_5_C) := of_length (n := 2) rfl rfl (by decide)
theorem set_5_D : Statement (.set_5_D) := of_length (n := 2) rfl rfl (by decide)
theorem set_5_E : Statement (.set_5_E) := of_length (n := 2) rfl rfl (by decide)
theorem set_5_H : Statement (.set_5_H) := of_length (n := 2) rfl rfl (by decide)
theorem set_5_L : Statement (.set_5_L) := of_length (n := 2) rfl rfl (by decide)
theorem set_5_mHL : Statement (.set_5_mHL) := of_length (n := 2) rfl rfl (by decide)
theorem set_5_A : Statement (.set_5_A) := of_length (n := 2) rfl rfl (by decide)
theorem set_6_B : Statement (.set_6_B) := of_length (n := 2) rfl rfl (by decide)
theorem set_6_C : Statement (.set_6_C) := of_length (n := 2) rfl rfl (by decide)
theorem set_6_D : Statement (.set_6_D) := of_length (n := 2) rfl rfl (by decide)
theorem set_6_E : Statement (.set_6_E) := of_length (n := 2) rfl rfl (by decide)
theorem set_6_H : Statement (.set_6_H) := of_length (n := 2) rfl rfl (by decide)
theorem set_6_L : Statement (.set_6_L) := of_length (n := 2) rfl rfl (by decide)
theorem set_6_mHL : Statement (.set_6_mHL) := of_length (n := 2) rfl rfl (by decide)
theorem set_6_A : Statement (.set_6_A) := of_length (n := 2) rfl rfl (by decide)
theorem set_7_B : Statement (.set_7_B) := of_length (n := 2) rfl rfl (by decide)
theorem set_7_C : Statement (.set_7_C) := of_length (n := 2) rfl rfl (by decide)
theorem set_7_D : Statement (.set_7_D) := of_length (n := 2) rfl rfl (by decide)
theorem set_7_E : Statement (.set_7_E) := of_length (n := 2) rfl rfl (by decide)
theorem set_7_H : Statement (.set_7_H) := of_length (n := 2) rfl rfl (by decide)
theorem set_7_L : Statement (.set_7_L) := of_length (n := 2) rfl rfl (by decide)
theorem set_7_mHL : Statement (.set_7_mHL) := of_length (n := 2) rfl rfl (by decide)
theorem set_7_A : Statement (.set_7_A) := of_length (n := 2) rfl rfl (by decide)
theorem prefixCB : Statement (.prefixCB) := of_length (n := 1) rfl rfl (by decide)

end EncodeLength
end Laws
end Sys2Proof
end

