-- ==== Sys2Proof/Laws/Session.lean ====
section
/-! SUPPORT. What is read of a supplied image, and of the RAM that reset leaves. -/

namespace Sys2Proof
namespace Machine

/-! ### Images -/

/-- The cells of an image lie at its indexes. -/
theorem imageCells_above (d : Nat → Byte) (im : List Byte) : ∀ (k : Nat), ∀ c ∈ imageCells d k im, k ≤ c.1 := by
  induction im with
  | nil => intro k c hc; cases hc
  | cons v vs ih =>
    intro k c hc
    unfold imageCells at hc
    split at hc
    · have := ih _ c hc; omega
    · rcases List.mem_cons.1 hc with h | h
      · subst h; exact Nat.le_refl _
      · have := ih _ c h; omega

/-- Nothing is listed below the keys of a table. -/
theorem find_none_of_lt {m : Memory} {x : Nat} (h : ∀ c ∈ m, x < c.1) : Sparse.find m x = none := by
  induction m with
  | nil => rfl
  | cons c m ih =>
    obtain ⟨k, w⟩ := c
    have := h (k, w) List.mem_cons_self
    simp only at this
    unfold Sparse.find
    rw [if_neg (by omega)]
    exact ih (fun c hc => h c (List.mem_cons_of_mem _ hc))

/-- A supplied image reads as its bytes, and past its end as the default. -/
theorem imageCells_read (d : Byte) (im : List Byte) : ∀ (k i : Nat),
    Sparse.read (fun _ => d) (imageCells (fun _ => d) k im) (k + i) = im.getD i d := by
  induction im with
  | nil => intro k i; rfl
  | cons v vs ih =>
    intro k i
    unfold imageCells
    cases i with
    | zero =>
      split
      · next h =>
        have : Sparse.find (imageCells (fun _ => d) (k+1) vs) (k + 0) = none :=
          find_none_of_lt (fun c hc => by have := imageCells_above _ vs _ c hc; omega)
        unfold Sparse.read; rw [this]; simp [h]
      · unfold Sparse.read Sparse.find; simp
    | succ i =>
      have := ih (k+1) i
      rw [show k + 1 + i = k + (i+1) by omega] at this
      split
      · rw [this]; simp
      · unfold Sparse.read Sparse.find
        rw [if_neg (by omega)]
        exact this.trans (by simp)

/-- An overlay image lists every one of its bytes. -/
theorem allCells_find (im : List Byte) : ∀ (k i : Nat), i < im.length →
    Sparse.find (allCells k im) (k + i) = some (im.getD i 0) := by
  induction im with
  | nil => intro k i h; cases h
  | cons v vs ih =>
    intro k i h
    unfold allCells Sparse.find
    cases i with
    | zero => simp
    | succ i =>
      rw [if_neg (by omega)]
      have := ih (k+1) i (by simpa using h)
      rw [show k + 1 + i = k + (i+1) by omega] at this
      rw [this]; simp

/-! ### RAM at reset -/

/-- A byte that holds `INIT_RAM` is storage, and no named register lies there. -/
theorem isInitRam_storage (m : AddressMap) (x : Nat) (h : m.isInitRam x = true) :
    m.isStorage x = true ∧ ∀ r, m.addr r ≠ x := by
  have top : ∀ r ∈ m.bounds.ranges, r.contains x = true → x < 0xFFFF := fun r hr e => by
    have := map_range m r hr
    rw [contains_iff] at e
    omega
  simp only [RegionBounds.ranges, List.mem_cons, forall_eq_or_imp] at top
  obtain ⟨t1, t2, t3, -, t5, -, t7, t8, -⟩ := top
  unfold AddressMap.isInitRam AddressMap.region at h
  by_cases c1 : x ≤ Config.romLast
  · simp [c1] at h
  rw [if_neg c1] at h
  by_cases c2 : Config.echoFirst ≤ x ∧ x ≤ Config.echoLast
  · simp [c2] at h
  rw [if_neg c2] at h
  cases c3 : m.isUnusable x
  · rw [c3, if_neg Bool.false_ne_true] at h
    have lt : x < 0xFFFF := by
      cases c4 : m.isIo x
      · rw [c4, if_neg Bool.false_ne_true] at h
        cases d1 : m.bounds.videoRam.contains x <;> cases d2 : m.bounds.externalRam.contains x <;>
          cases d3 : m.bounds.workRam.contains x <;> cases d4 : m.bounds.spriteTable.contains x <;>
          cases d5 : m.bounds.highRam.contains x <;>
          first | exact t1 d1 | exact t2 d2 | exact t3 d3 | exact t5 d4 | exact t8 d5 | (simp [d1, d2, d3, d4, d5] at h)
      · exact t7 c4
    refine ⟨(isStorage_iff _ _).2 ⟨by simp only [Config.romLast] at c1; omega, by omega, c2, c3⟩, ?_⟩
    rintro r rfl
    by_cases hr : r = .IE
    · subst hr; rw [map_addr_IE] at lt; omega
    · rw [map_addr_io m r hr, if_pos rfl] at h
      simp [AddressMap.isNamed, IoReg.all] at h
      cases r <;> simp_all
  · simp [c3] at h

/-- What a byte holds at reset before STAT and LY are written: `INIT_RAM` where it has a place, else 0x00; only where the
map puts STAT's default address in the unusable region, which nothing reads, is the byte there left as it is. -/
theorem resetRam_read (P : Params) (x : Nat) : Sparse.read Config.resetByte P.resetRam x =
    if P.map.isInitRam x = true then
      (match Sparse.find P.initRam x with
        | some v => v
        | none => if x = 0xFF41 ∧ P.map.isUnusable 0xFF41 = true then 1 else 0)
    else if x = 0xFF41 ∧ P.map.isUnusable 0xFF41 = true then 1 else 0 := by
  unfold Params.resetRam
  have hb : Sparse.read Config.resetByte (if P.map.isUnusable IoAddresses.standard.stat then []
      else Sparse.write Config.resetByte [] IoAddresses.standard.stat 0x00) x =
        if x = 0xFF41 ∧ P.map.isUnusable 0xFF41 = true then 1 else 0 := by
    show Sparse.read _ (if P.map.isUnusable 0xFF41 then []
      else Sparse.write Config.resetByte [] 0xFF41 0x00) x = _
    split
    · next h =>
      show Config.resetByte x = _
      simp [Config.resetByte, h]
    · next h =>
      rw [Sparse.read_write]
      split
      · simp [h]
      · next hx => show Config.resetByte x = _; simp [Config.resetByte, hx]
  generalize (if P.map.isUnusable IoAddresses.standard.stat then []
      else Sparse.write Config.resetByte [] IoAddresses.standard.stat 0x00) = base at hb
  induction P.initRam with
  | nil => simpa [Sparse.find] using hb
  | cons c l ih =>
    obtain ⟨k, w⟩ := c
    rw [List.foldr_cons]
    simp only
    by_cases hk : k = x
    · subst hk
      split
      · next h => rw [Sparse.read_write, if_pos rfl]; simp [Sparse.find]
      · next h => rw [ih]; simp [h]
    · split
      · rw [Sparse.read_write, if_neg (Ne.symm hk)]
        refine ih.trans ?_
        simp [Sparse.find, hk]
      · refine ih.trans ?_
        simp [Sparse.find, hk]

end Machine
end Sys2Proof
end

