-- ==== Sys2Proof/Tests/Slice0.lean ====
section
/-! SUPPORT. The model's own tests: the well-formedness checks, the decoding of every table row, the vectors of
spec/95_test_vectors.md, and for every statement with hypotheses a state that meets them. Expected values are those
that the spec writes; a test named after a vector (S2_b, V42_25, ...) carries that vector's numbers. -/

namespace Sys2Proof
namespace Tests

open Machine Stated

set_option Elab.async false

/-! ## The helper states -/

/-- The baseline of the vectors: the overlay off, `SP` = FFFE, `PC` = 0100, with the cells of the image and of the
backing array that a test needs. -/
def base (rom raw : Memory) : State :=
  (((((State.resetTo .boot).setBootActive false).setSp 0xFFFE).setPc 0x0100).setRom rom).setRaw raw

/-- What `f` sees after one step of the CPU. -/
def after {α : Type} (s : State) (f : State → α) : Option α :=
  match s.cpuStep with
  | .next t => some (f t)
  | .fault _ => none
  | .refused _ => none

/-- What `f` sees after one machine step. -/
def stepped {α : Type} (s : State) (f : State → α) : Option α :=
  match step s with
  | .next t => some (f t)
  | .fault _ => none
  | .refused _ => none

/-- Whether a machine step stops with the fault. -/
def stopsWith (s : State) (r : Fault) : Bool :=
  match step s with
  | .next _ => false
  | .fault q => decide (q = r)
  | .refused _ => false

/-! ## Well-formedness: what the checks refuse, and what they let pass -/

theorem test_wf_refuses_prefix : Instr.wellFormed .prefixCB = false := by decide
theorem test_wf_refuses_defined_opcode : Instr.wellFormed (.undefined 0x00) = false := by decide
theorem test_wf_refuses_prefix_as_undefined : Instr.wellFormed (.undefined 0xCB) = false := by decide
theorem test_wf_accepts_undefined : Instr.wellFormed (.undefined 0xD3) = true := by decide
theorem test_wf_accepts_stop : Instr.wellFormed (.stop 0xD3) = true := by decide

/-! ## Decoding: the opcode map of R112 and R113, sixteen words a line, with the operand bytes 34 and 12 -/

theorem test_map_primary_0x : ([0x00, 0x01, 0x02, 0x03, 0x04, 0x05, 0x06, 0x07, 0x08, 0x09, 0x0A, 0x0B, 0x0C, 0x0D, 0x0E, 0x0F] : List Byte).map (fun b => decodeBytes b 0x34 0x12) =
    [.nop, .ld_BC_nn 0x1234, .ld_mBC_A, .inc_BC, .inc_B, .dec_B, .ld_B_n 0x34, .rlca,
      .ld_mnn_SP 0x1234, .add_HL_BC, .ld_A_mBC, .dec_BC, .inc_C, .dec_C, .ld_C_n 0x34, .rrca] := by decide
theorem test_map_primary_1x : ([0x10, 0x11, 0x12, 0x13, 0x14, 0x15, 0x16, 0x17, 0x18, 0x19, 0x1A, 0x1B, 0x1C, 0x1D, 0x1E, 0x1F] : List Byte).map (fun b => decodeBytes b 0x34 0x12) =
    [.stop 0x34, .ld_DE_nn 0x1234, .ld_mDE_A, .inc_DE, .inc_D, .dec_D, .ld_D_n 0x34, .rla,
      .jr_e 0x34, .add_HL_DE, .ld_A_mDE, .dec_DE, .inc_E, .dec_E, .ld_E_n 0x34, .rra] := by decide
theorem test_map_primary_2x : ([0x20, 0x21, 0x22, 0x23, 0x24, 0x25, 0x26, 0x27, 0x28, 0x29, 0x2A, 0x2B, 0x2C, 0x2D, 0x2E, 0x2F] : List Byte).map (fun b => decodeBytes b 0x34 0x12) =
    [.jr_NZ_e 0x34, .ld_HL_nn 0x1234, .ld_mHLinc_A, .inc_HL, .inc_H, .dec_H, .ld_H_n 0x34, .daa,
      .jr_Z_e 0x34, .add_HL_HL, .ld_A_mHLinc, .dec_HL, .inc_L, .dec_L, .ld_L_n 0x34, .cpl] := by decide
theorem test_map_primary_3x : ([0x30, 0x31, 0x32, 0x33, 0x34, 0x35, 0x36, 0x37, 0x38, 0x39, 0x3A, 0x3B, 0x3C, 0x3D, 0x3E, 0x3F] : List Byte).map (fun b => decodeBytes b 0x34 0x12) =
    [.jr_NC_e 0x34, .ld_SP_nn 0x1234, .ld_mHLdec_A, .inc_SP, .inc_mHL, .dec_mHL, .ld_mHL_n 0x34,
      .scf, .jr_C_e 0x34, .add_HL_SP, .ld_A_mHLdec, .dec_SP, .inc_A, .dec_A, .ld_A_n 0x34, .ccf] := by decide
theorem test_map_primary_4x : ([0x40, 0x41, 0x42, 0x43, 0x44, 0x45, 0x46, 0x47, 0x48, 0x49, 0x4A, 0x4B, 0x4C, 0x4D, 0x4E, 0x4F] : List Byte).map (fun b => decodeBytes b 0x34 0x12) =
    [.ld_B_B, .ld_B_C, .ld_B_D, .ld_B_E, .ld_B_H, .ld_B_L, .ld_B_mHL, .ld_B_A, .ld_C_B, .ld_C_C,
      .ld_C_D, .ld_C_E, .ld_C_H, .ld_C_L, .ld_C_mHL, .ld_C_A] := by decide
theorem test_map_primary_5x : ([0x50, 0x51, 0x52, 0x53, 0x54, 0x55, 0x56, 0x57, 0x58, 0x59, 0x5A, 0x5B, 0x5C, 0x5D, 0x5E, 0x5F] : List Byte).map (fun b => decodeBytes b 0x34 0x12) =
    [.ld_D_B, .ld_D_C, .ld_D_D, .ld_D_E, .ld_D_H, .ld_D_L, .ld_D_mHL, .ld_D_A, .ld_E_B, .ld_E_C,
      .ld_E_D, .ld_E_E, .ld_E_H, .ld_E_L, .ld_E_mHL, .ld_E_A] := by decide
theorem test_map_primary_6x : ([0x60, 0x61, 0x62, 0x63, 0x64, 0x65, 0x66, 0x67, 0x68, 0x69, 0x6A, 0x6B, 0x6C, 0x6D, 0x6E, 0x6F] : List Byte).map (fun b => decodeBytes b 0x34 0x12) =
    [.ld_H_B, .ld_H_C, .ld_H_D, .ld_H_E, .ld_H_H, .ld_H_L, .ld_H_mHL, .ld_H_A, .ld_L_B, .ld_L_C,
      .ld_L_D, .ld_L_E, .ld_L_H, .ld_L_L, .ld_L_mHL, .ld_L_A] := by decide
theorem test_map_primary_7x : ([0x70, 0x71, 0x72, 0x73, 0x74, 0x75, 0x76, 0x77, 0x78, 0x79, 0x7A, 0x7B, 0x7C, 0x7D, 0x7E, 0x7F] : List Byte).map (fun b => decodeBytes b 0x34 0x12) =
    [.ld_mHL_B, .ld_mHL_C, .ld_mHL_D, .ld_mHL_E, .ld_mHL_H, .ld_mHL_L, .halt, .ld_mHL_A, .ld_A_B,
      .ld_A_C, .ld_A_D, .ld_A_E, .ld_A_H, .ld_A_L, .ld_A_mHL, .ld_A_A] := by decide
theorem test_map_primary_8x : ([0x80, 0x81, 0x82, 0x83, 0x84, 0x85, 0x86, 0x87, 0x88, 0x89, 0x8A, 0x8B, 0x8C, 0x8D, 0x8E, 0x8F] : List Byte).map (fun b => decodeBytes b 0x34 0x12) =
    [.add_A_B, .add_A_C, .add_A_D, .add_A_E, .add_A_H, .add_A_L, .add_A_mHL, .add_A_A, .adc_A_B,
      .adc_A_C, .adc_A_D, .adc_A_E, .adc_A_H, .adc_A_L, .adc_A_mHL, .adc_A_A] := by decide
theorem test_map_primary_9x : ([0x90, 0x91, 0x92, 0x93, 0x94, 0x95, 0x96, 0x97, 0x98, 0x99, 0x9A, 0x9B, 0x9C, 0x9D, 0x9E, 0x9F] : List Byte).map (fun b => decodeBytes b 0x34 0x12) =
    [.sub_B, .sub_C, .sub_D, .sub_E, .sub_H, .sub_L, .sub_mHL, .sub_A, .sbc_A_B, .sbc_A_C, .sbc_A_D,
      .sbc_A_E, .sbc_A_H, .sbc_A_L, .sbc_A_mHL, .sbc_A_A] := by decide
theorem test_map_primary_Ax : ([0xA0, 0xA1, 0xA2, 0xA3, 0xA4, 0xA5, 0xA6, 0xA7, 0xA8, 0xA9, 0xAA, 0xAB, 0xAC, 0xAD, 0xAE, 0xAF] : List Byte).map (fun b => decodeBytes b 0x34 0x12) =
    [.and_B, .and_C, .and_D, .and_E, .and_H, .and_L, .and_mHL, .and_A, .xor_B, .xor_C, .xor_D,
      .xor_E, .xor_H, .xor_L, .xor_mHL, .xor_A] := by decide
theorem test_map_primary_Bx : ([0xB0, 0xB1, 0xB2, 0xB3, 0xB4, 0xB5, 0xB6, 0xB7, 0xB8, 0xB9, 0xBA, 0xBB, 0xBC, 0xBD, 0xBE, 0xBF] : List Byte).map (fun b => decodeBytes b 0x34 0x12) =
    [.or_B, .or_C, .or_D, .or_E, .or_H, .or_L, .or_mHL, .or_A, .cp_B, .cp_C, .cp_D, .cp_E, .cp_H,
      .cp_L, .cp_mHL, .cp_A] := by decide
theorem test_map_primary_Cx : ([0xC0, 0xC1, 0xC2, 0xC3, 0xC4, 0xC5, 0xC6, 0xC7, 0xC8, 0xC9, 0xCA, 0xCC, 0xCD, 0xCE, 0xCF] : List Byte).map (fun b => decodeBytes b 0x34 0x12) =
    [.ret_NZ, .pop_BC, .jp_NZ_nn 0x1234, .jp_nn 0x1234, .call_NZ_nn 0x1234, .push_BC, .add_A_n 0x34,
      .rst_00H, .ret_Z, .ret, .jp_Z_nn 0x1234, .call_Z_nn 0x1234, .call_nn 0x1234, .adc_A_n 0x34,
      .rst_08H] := by decide
theorem test_map_primary_Dx : ([0xD0, 0xD1, 0xD2, 0xD3, 0xD4, 0xD5, 0xD6, 0xD7, 0xD8, 0xD9, 0xDA, 0xDB, 0xDC, 0xDD, 0xDE, 0xDF] : List Byte).map (fun b => decodeBytes b 0x34 0x12) =
    [.ret_NC, .pop_DE, .jp_NC_nn 0x1234, .undefined 0xD3, .call_NC_nn 0x1234, .push_DE, .sub_n 0x34,
      .rst_10H, .ret_C, .reti, .jp_C_nn 0x1234, .undefined 0xDB, .call_C_nn 0x1234, .undefined 0xDD,
      .sbc_A_n 0x34, .rst_18H] := by decide
theorem test_map_primary_Ex : ([0xE0, 0xE1, 0xE2, 0xE3, 0xE4, 0xE5, 0xE6, 0xE7, 0xE8, 0xE9, 0xEA, 0xEB, 0xEC, 0xED, 0xEE, 0xEF] : List Byte).map (fun b => decodeBytes b 0x34 0x12) =
    [.ldh_mn_A 0x34, .pop_HL, .ld_mC_A, .undefined 0xE3, .undefined 0xE4, .push_HL, .and_n 0x34,
      .rst_20H, .add_SP_e 0x34, .jp_HL, .ld_mnn_A 0x1234, .undefined 0xEB, .undefined 0xEC,
      .undefined 0xED, .xor_n 0x34, .rst_28H] := by decide
theorem test_map_primary_Fx : ([0xF0, 0xF1, 0xF2, 0xF3, 0xF4, 0xF5, 0xF6, 0xF7, 0xF8, 0xF9, 0xFA, 0xFB, 0xFC, 0xFD, 0xFE, 0xFF] : List Byte).map (fun b => decodeBytes b 0x34 0x12) =
    [.ldh_A_mn 0x34, .pop_AF, .ld_A_mC, .di, .undefined 0xF4, .push_AF, .or_n 0x34, .rst_30H,
      .ld_HL_SPe 0x34, .ld_SP_HL, .ld_A_mnn 0x1234, .ei, .undefined 0xFC, .undefined 0xFD, .cp_n 0x34,
      .rst_38H] := by decide
theorem test_map_cb_0x : ([0x00, 0x01, 0x02, 0x03, 0x04, 0x05, 0x06, 0x07, 0x08, 0x09, 0x0A, 0x0B, 0x0C, 0x0D, 0x0E, 0x0F] : List Byte).map (fun b => decodeBytes 0xCB b 0x12) =
    [.rlc_B, .rlc_C, .rlc_D, .rlc_E, .rlc_H, .rlc_L, .rlc_mHL, .rlc_A, .rrc_B, .rrc_C, .rrc_D,
      .rrc_E, .rrc_H, .rrc_L, .rrc_mHL, .rrc_A] := by decide
theorem test_map_cb_1x : ([0x10, 0x11, 0x12, 0x13, 0x14, 0x15, 0x16, 0x17, 0x18, 0x19, 0x1A, 0x1B, 0x1C, 0x1D, 0x1E, 0x1F] : List Byte).map (fun b => decodeBytes 0xCB b 0x12) =
    [.rl_B, .rl_C, .rl_D, .rl_E, .rl_H, .rl_L, .rl_mHL, .rl_A, .rr_B, .rr_C, .rr_D, .rr_E, .rr_H,
      .rr_L, .rr_mHL, .rr_A] := by decide
theorem test_map_cb_2x : ([0x20, 0x21, 0x22, 0x23, 0x24, 0x25, 0x26, 0x27, 0x28, 0x29, 0x2A, 0x2B, 0x2C, 0x2D, 0x2E, 0x2F] : List Byte).map (fun b => decodeBytes 0xCB b 0x12) =
    [.sla_B, .sla_C, .sla_D, .sla_E, .sla_H, .sla_L, .sla_mHL, .sla_A, .sra_B, .sra_C, .sra_D,
      .sra_E, .sra_H, .sra_L, .sra_mHL, .sra_A] := by decide
theorem test_map_cb_3x : ([0x30, 0x31, 0x32, 0x33, 0x34, 0x35, 0x36, 0x37, 0x38, 0x39, 0x3A, 0x3B, 0x3C, 0x3D, 0x3E, 0x3F] : List Byte).map (fun b => decodeBytes 0xCB b 0x12) =
    [.swap_B, .swap_C, .swap_D, .swap_E, .swap_H, .swap_L, .swap_mHL, .swap_A, .srl_B, .srl_C,
      .srl_D, .srl_E, .srl_H, .srl_L, .srl_mHL, .srl_A] := by decide
theorem test_map_cb_4x : ([0x40, 0x41, 0x42, 0x43, 0x44, 0x45, 0x46, 0x47, 0x48, 0x49, 0x4A, 0x4B, 0x4C, 0x4D, 0x4E, 0x4F] : List Byte).map (fun b => decodeBytes 0xCB b 0x12) =
    [.bit_0_B, .bit_0_C, .bit_0_D, .bit_0_E, .bit_0_H, .bit_0_L, .bit_0_mHL, .bit_0_A, .bit_1_B,
      .bit_1_C, .bit_1_D, .bit_1_E, .bit_1_H, .bit_1_L, .bit_1_mHL, .bit_1_A] := by decide
theorem test_map_cb_5x : ([0x50, 0x51, 0x52, 0x53, 0x54, 0x55, 0x56, 0x57, 0x58, 0x59, 0x5A, 0x5B, 0x5C, 0x5D, 0x5E, 0x5F] : List Byte).map (fun b => decodeBytes 0xCB b 0x12) =
    [.bit_2_B, .bit_2_C, .bit_2_D, .bit_2_E, .bit_2_H, .bit_2_L, .bit_2_mHL, .bit_2_A, .bit_3_B,
      .bit_3_C, .bit_3_D, .bit_3_E, .bit_3_H, .bit_3_L, .bit_3_mHL, .bit_3_A] := by decide
theorem test_map_cb_6x : ([0x60, 0x61, 0x62, 0x63, 0x64, 0x65, 0x66, 0x67, 0x68, 0x69, 0x6A, 0x6B, 0x6C, 0x6D, 0x6E, 0x6F] : List Byte).map (fun b => decodeBytes 0xCB b 0x12) =
    [.bit_4_B, .bit_4_C, .bit_4_D, .bit_4_E, .bit_4_H, .bit_4_L, .bit_4_mHL, .bit_4_A, .bit_5_B,
      .bit_5_C, .bit_5_D, .bit_5_E, .bit_5_H, .bit_5_L, .bit_5_mHL, .bit_5_A] := by decide
theorem test_map_cb_7x : ([0x70, 0x71, 0x72, 0x73, 0x74, 0x75, 0x76, 0x77, 0x78, 0x79, 0x7A, 0x7B, 0x7C, 0x7D, 0x7E, 0x7F] : List Byte).map (fun b => decodeBytes 0xCB b 0x12) =
    [.bit_6_B, .bit_6_C, .bit_6_D, .bit_6_E, .bit_6_H, .bit_6_L, .bit_6_mHL, .bit_6_A, .bit_7_B,
      .bit_7_C, .bit_7_D, .bit_7_E, .bit_7_H, .bit_7_L, .bit_7_mHL, .bit_7_A] := by decide
theorem test_map_cb_8x : ([0x80, 0x81, 0x82, 0x83, 0x84, 0x85, 0x86, 0x87, 0x88, 0x89, 0x8A, 0x8B, 0x8C, 0x8D, 0x8E, 0x8F] : List Byte).map (fun b => decodeBytes 0xCB b 0x12) =
    [.res_0_B, .res_0_C, .res_0_D, .res_0_E, .res_0_H, .res_0_L, .res_0_mHL, .res_0_A, .res_1_B,
      .res_1_C, .res_1_D, .res_1_E, .res_1_H, .res_1_L, .res_1_mHL, .res_1_A] := by decide
theorem test_map_cb_9x : ([0x90, 0x91, 0x92, 0x93, 0x94, 0x95, 0x96, 0x97, 0x98, 0x99, 0x9A, 0x9B, 0x9C, 0x9D, 0x9E, 0x9F] : List Byte).map (fun b => decodeBytes 0xCB b 0x12) =
    [.res_2_B, .res_2_C, .res_2_D, .res_2_E, .res_2_H, .res_2_L, .res_2_mHL, .res_2_A, .res_3_B,
      .res_3_C, .res_3_D, .res_3_E, .res_3_H, .res_3_L, .res_3_mHL, .res_3_A] := by decide
theorem test_map_cb_Ax : ([0xA0, 0xA1, 0xA2, 0xA3, 0xA4, 0xA5, 0xA6, 0xA7, 0xA8, 0xA9, 0xAA, 0xAB, 0xAC, 0xAD, 0xAE, 0xAF] : List Byte).map (fun b => decodeBytes 0xCB b 0x12) =
    [.res_4_B, .res_4_C, .res_4_D, .res_4_E, .res_4_H, .res_4_L, .res_4_mHL, .res_4_A, .res_5_B,
      .res_5_C, .res_5_D, .res_5_E, .res_5_H, .res_5_L, .res_5_mHL, .res_5_A] := by decide
theorem test_map_cb_Bx : ([0xB0, 0xB1, 0xB2, 0xB3, 0xB4, 0xB5, 0xB6, 0xB7, 0xB8, 0xB9, 0xBA, 0xBB, 0xBC, 0xBD, 0xBE, 0xBF] : List Byte).map (fun b => decodeBytes 0xCB b 0x12) =
    [.res_6_B, .res_6_C, .res_6_D, .res_6_E, .res_6_H, .res_6_L, .res_6_mHL, .res_6_A, .res_7_B,
      .res_7_C, .res_7_D, .res_7_E, .res_7_H, .res_7_L, .res_7_mHL, .res_7_A] := by decide
theorem test_map_cb_Cx : ([0xC0, 0xC1, 0xC2, 0xC3, 0xC4, 0xC5, 0xC6, 0xC7, 0xC8, 0xC9, 0xCA, 0xCB, 0xCC, 0xCD, 0xCE, 0xCF] : List Byte).map (fun b => decodeBytes 0xCB b 0x12) =
    [.set_0_B, .set_0_C, .set_0_D, .set_0_E, .set_0_H, .set_0_L, .set_0_mHL, .set_0_A, .set_1_B,
      .set_1_C, .set_1_D, .set_1_E, .set_1_H, .set_1_L, .set_1_mHL, .set_1_A] := by decide
theorem test_map_cb_Dx : ([0xD0, 0xD1, 0xD2, 0xD3, 0xD4, 0xD5, 0xD6, 0xD7, 0xD8, 0xD9, 0xDA, 0xDB, 0xDC, 0xDD, 0xDE, 0xDF] : List Byte).map (fun b => decodeBytes 0xCB b 0x12) =
    [.set_2_B, .set_2_C, .set_2_D, .set_2_E, .set_2_H, .set_2_L, .set_2_mHL, .set_2_A, .set_3_B,
      .set_3_C, .set_3_D, .set_3_E, .set_3_H, .set_3_L, .set_3_mHL, .set_3_A] := by decide
theorem test_map_cb_Ex : ([0xE0, 0xE1, 0xE2, 0xE3, 0xE4, 0xE5, 0xE6, 0xE7, 0xE8, 0xE9, 0xEA, 0xEB, 0xEC, 0xED, 0xEE, 0xEF] : List Byte).map (fun b => decodeBytes 0xCB b 0x12) =
    [.set_4_B, .set_4_C, .set_4_D, .set_4_E, .set_4_H, .set_4_L, .set_4_mHL, .set_4_A, .set_5_B,
      .set_5_C, .set_5_D, .set_5_E, .set_5_H, .set_5_L, .set_5_mHL, .set_5_A] := by decide
theorem test_map_cb_Fx : ([0xF0, 0xF1, 0xF2, 0xF3, 0xF4, 0xF5, 0xF6, 0xF7, 0xF8, 0xF9, 0xFA, 0xFB, 0xFC, 0xFD, 0xFE, 0xFF] : List Byte).map (fun b => decodeBytes 0xCB b 0x12) =
    [.set_6_B, .set_6_C, .set_6_D, .set_6_E, .set_6_H, .set_6_L, .set_6_mHL, .set_6_A, .set_7_B,
      .set_7_C, .set_7_D, .set_7_E, .set_7_H, .set_7_L, .set_7_mHL, .set_7_A] := by decide

/-- A list too short for its instruction is refused by name. -/
theorem test_decode_no_bytes : decode [] = .error .noBytes := by rfl
theorem test_decode_truncated_operand : decode [0xC3, 0x00] = .error .truncated := by rfl
theorem test_decode_truncated_prefix : decode [0xCB] = .error .truncated := by rfl
/-- The table numbers an extended row with the prefix in its high byte, and an operand byte upwards from bit 8. -/
theorem test_table_word_extended : decodeTableWord 16 0xCBFE = some .set_7_mHL := by rfl
theorem test_table_word_immediate : decodeTableWord 16 0x4206 = some (.ld_B_n 0x42) := by rfl
theorem test_table_word_short : decodeTableWord 8 0xC3 = some (.jp_nn 0x0000) := by rfl
theorem test_encode_absolute : encode (.ld_mnn_A 0x1234) = [0xEA, 0x34, 0x12] := by decide

/-! ## The vectors of parts 1 to 3: one step from the state of the vector -/

/-- LD BC,0x1234: B is the high half: big-endian composition of the pair (R161). -/
theorem test_S1_a : after (base [(0x100, 0x1), (0x101, 0x34), (0x102, 0x12), (0x147, 0x0)] [])
    (fun t => (t.flags.pack, t.b, t.c, t.pc, t.cycles)) =
    some (0x00, 0x12, 0x34, 0x0103, 12) := by decide +kernel
/-- LD HL,0xFFFF: the vector (R161). -/
theorem test_S1_b : after (base [(0x100, 0x21), (0x101, 0xFF), (0x102, 0xFF), (0x147, 0x0)] [])
    (fun t => (t.flags.pack, t.h, t.l, t.pc, t.cycles)) =
    some (0x00, 0xFF, 0xFF, 0x0103, 12) := by decide +kernel
/-- LD DE,0x8000: the vector (R161). -/
theorem test_S1_c : after (base [(0x100, 0x11), (0x101, 0x0), (0x102, 0x80), (0x147, 0x0)] [])
    (fun t => (t.flags.pack, t.d, t.pc, t.cycles)) =
    some (0x00, 0x80, 0x0103, 12) := by decide +kernel
/-- ADD A,B: half carry only (R176). -/
theorem test_S2_b : after (((base [(0x100, 0x80), (0x147, 0x0)] []).setA 0x0F).setB 0x01)
    (fun t => (t.a, t.flags.pack, t.pc, t.cycles)) =
    some (0x10, 0x20, 0x0101, 4) := by decide +kernel
/-- ADD A,B: both, result zero (R176). -/
theorem test_S2_d : after (((base [(0x100, 0x80), (0x147, 0x0)] []).setA 0xFF).setB 0x01)
    (fun t => (t.a, t.flags.pack, t.pc, t.cycles)) =
    some (0x00, 0xB0, 0x0101, 4) := by decide +kernel
/-- RLCA: bit 7 wraps to bit 0; Z forced 0 (R231). -/
theorem test_S4_a : after ((base [(0x100, 0x7), (0x147, 0x0)] []).setA 0x85)
    (fun t => (t.a, t.flags.pack, t.pc, t.cycles)) =
    some (0x0B, 0x10, 0x0101, 4) := by decide +kernel
/-- RRCA: bit 0 wraps to bit 7 (R233). -/
theorem test_S4_b : after ((base [(0x100, 0xF), (0x147, 0x0)] []).setA 0x01)
    (fun t => (t.a, t.flags.pack, t.pc, t.cycles)) =
    some (0x80, 0x10, 0x0101, 4) := by decide +kernel
/-- RLA: old Carry (0) enters bit 0; result 00 but Z=0 (R232). -/
theorem test_S4_c : after ((base [(0x100, 0x17), (0x147, 0x0)] []).setA 0x80)
    (fun t => (t.a, t.flags.pack, t.pc, t.cycles)) =
    some (0x00, 0x10, 0x0101, 4) := by decide +kernel
/-- RRA: old Carry (1) enters bit 7 (R234). -/
theorem test_S4_d : after (((base [(0x100, 0x1F), (0x147, 0x0)] []).setA 0x01).setFlags (Flags.unpack 0x10))
    (fun t => (t.a, t.flags.pack, t.pc, t.cycles)) =
    some (0x80, 0x10, 0x0101, 4) := by decide +kernel
/-- RLC B: RLC: wrap (R235). -/
theorem test_S4_e : after ((base [(0x100, 0xCB), (0x101, 0x0), (0x147, 0x0)] []).setB 0x80)
    (fun t => (t.flags.pack, t.b, t.pc, t.cycles)) =
    some (0x10, 0x01, 0x0102, 8) := by decide +kernel
/-- RRC C: RRC: wrap (R237). -/
theorem test_S4_f : after ((base [(0x100, 0xCB), (0x101, 0x9), (0x147, 0x0)] []).setC 0x01)
    (fun t => (t.flags.pack, t.c, t.pc, t.cycles)) =
    some (0x10, 0x80, 0x0102, 8) := by decide +kernel
/-- RL D: RL: old Carry 0 in; result zero sets Z (R239). -/
theorem test_S4_g : after ((base [(0x100, 0xCB), (0x101, 0x12), (0x147, 0x0)] []).setD 0x80)
    (fun t => (t.flags.pack, t.d, t.pc, t.cycles)) =
    some (0x90, 0x00, 0x0102, 8) := by decide +kernel
/-- RR E: RR: old Carry 1 in (R241). -/
theorem test_S4_h : after (((base [(0x100, 0xCB), (0x101, 0x1B), (0x147, 0x0)] []).setFlags (Flags.unpack 0x10)).setE 0x01)
    (fun t => (t.flags.pack, t.e, t.pc, t.cycles)) =
    some (0x10, 0x80, 0x0102, 8) := by decide +kernel
/-- SLA H: SLA: 0 enters bit 0 (R243). -/
theorem test_S4_i : after ((base [(0x100, 0xCB), (0x101, 0x24), (0x147, 0x0)] []).setH 0xFF)
    (fun t => (t.flags.pack, t.h, t.pc, t.cycles)) =
    some (0x10, 0xFE, 0x0102, 8) := by decide +kernel
/-- SRA L: SRA: bit 7 keeps its value (R245). -/
theorem test_S4_j : after ((base [(0x100, 0xCB), (0x101, 0x2D), (0x147, 0x0)] []).setL 0x81)
    (fun t => (t.flags.pack, t.l, t.pc, t.cycles)) =
    some (0x10, 0xC0, 0x0102, 8) := by decide +kernel
/-- SRL A: SRL: 0 enters bit 7 (R249). -/
theorem test_S4_k : after ((base [(0x100, 0xCB), (0x101, 0x3F), (0x147, 0x0)] []).setA 0x81)
    (fun t => (t.a, t.flags.pack, t.pc, t.cycles)) =
    some (0x40, 0x10, 0x0102, 8) := by decide +kernel
/-- Interrupt service: step 1: VBlank first; Timer stays pending; IME cleared (R304, R310). -/
theorem test_S7_a : after (((base [(0x40, 0xD9), (0x50, 0xD9), (0x147, 0x0)] [(0xFF0F, 0x5), (0xFFFF, 0x5)]).setPc 0x0150).setIme true)
    (fun t => (t.sp, t.pc, t.ime, t.rawGet 0xFF0F, t.rawGet 0xFFFC, t.rawGet 0xFFFD)) =
    some (0xFFFC, 0x0040, false, 0x04, 0x50, 0x01) := by decide +kernel
/-- INC A: the source's example (R200). -/
theorem test_S8_a : after ((base [(0x100, 0x3C), (0x147, 0x0)] []).setA 0xFF)
    (fun t => (t.a, t.flags.pack, t.pc, t.cycles)) =
    some (0x00, 0xA0, 0x0101, 4) := by decide +kernel
/-- INC A: N was 1 and is cleared; Carry kept (R200). -/
theorem test_S8_c : after (((base [(0x100, 0x3C), (0x147, 0x0)] []).setA 0x0F).setFlags (Flags.unpack 0xD0))
    (fun t => (t.a, t.flags.pack, t.pc, t.cycles)) =
    some (0x10, 0x30, 0x0101, 4) := by decide +kernel
/-- LD B,0x7F: immediate to register (R132). -/
theorem test_V40_01 : after ((base [(0x100, 0x6), (0x101, 0x7F), (0x147, 0x0)] []).setFlags (Flags.unpack 0xF0))
    (fun t => (t.flags.pack, t.b, t.pc, t.cycles)) =
    some (0xF0, 0x7F, 0x0102, 8) := by decide +kernel
/-- LD B,C: register to register; flags untouched (R131). -/
theorem test_V40_02 : after (((base [(0x100, 0x41), (0x147, 0x0)] []).setFlags (Flags.unpack 0xF0)).setC 0x99)
    (fun t => (t.flags.pack, t.b, t.pc, t.cycles)) =
    some (0xF0, 0x99, 0x0101, 4) := by decide +kernel
/-- LD A,A: LD A,A changes nothing but PC (R131). -/
theorem test_V40_03 : after ((base [(0x100, 0x7F), (0x147, 0x0)] []).setA 0x5A)
    (fun t => (t.flags.pack, t.pc, t.cycles)) =
    some (0x00, 0x0101, 4) := by decide +kernel
/-- LD (HL),B: store through HL (R134). -/
theorem test_V40_04 : after (((base [(0x100, 0x70), (0x147, 0x0)] []).setB 0xAB).setH 0xC0)
    (fun t => (t.flags.pack, t.pc, t.rawGet 0xC000, t.cycles)) =
    some (0x00, 0x0101, 0xAB, 8) := by decide +kernel
/-- LD L,(HL): load L from (HL): the address is read before L is overwritten (R133). -/
theorem test_V40_05 : after (((base [(0x100, 0x6E), (0x147, 0x0)] [(0xC005, 0x77)]).setH 0xC0).setL 0x05)
    (fun t => (t.flags.pack, t.l, t.pc, t.cycles)) =
    some (0x00, 0x77, 0x0101, 8) := by decide +kernel
/-- LD (HL),0x42: immediate to memory, 12 cycles (R135). -/
theorem test_V40_06 : after (((base [(0x100, 0x36), (0x101, 0x42), (0x147, 0x0)] []).setH 0xC0).setL 0x10)
    (fun t => (t.flags.pack, t.pc, t.rawGet 0xC010, t.cycles)) =
    some (0x00, 0x0102, 0x42, 12) := by decide +kernel
/-- LD A,(BC): A from (BC) (R136). -/
theorem test_V40_07 : after (((base [(0x100, 0xA), (0x147, 0x0)] [(0xC020, 0x3C)]).setB 0xC0).setC 0x20)
    (fun t => (t.a, t.flags.pack, t.pc, t.cycles)) =
    some (0x3C, 0x00, 0x0101, 8) := by decide +kernel
/-- LD (DE),A: A to (DE) (R139). -/
theorem test_V40_08 : after ((((base [(0x100, 0x12), (0x147, 0x0)] []).setA 0x81).setD 0xC0).setE 0x30)
    (fun t => (t.flags.pack, t.pc, t.rawGet 0xC030, t.cycles)) =
    some (0x00, 0x0101, 0x81, 8) := by decide +kernel
/-- LD (HL+),A: store and post-increment; HL wraps FFFF to 0000; FFFF is the IE register (R146). -/
theorem test_V40_09 : after ((((base [(0x100, 0x22), (0x147, 0x0)] []).setA 0x1F).setH 0xFF).setL 0xFF)
    (fun t => (t.flags.pack, t.h, t.l, t.pc, t.rawGet 0xFFFF, t.cycles)) =
    some (0x00, 0x00, 0x00, 0x0101, 0x1F, 8) := by decide +kernel
/-- LD A,(HL-): load and post-decrement; HL wraps 0000 to FFFF; 0000 reads the ROM byte (R149). -/
theorem test_V40_10 : after (base [(0x0, 0xC3), (0x100, 0x3A), (0x147, 0x0)] [])
    (fun t => (t.a, t.flags.pack, t.h, t.l, t.pc, t.cycles)) =
    some (0xC3, 0x00, 0xFF, 0xFF, 0x0101, 8) := by decide +kernel
/-- LDH (0x80),A: high page store: address FF00+80 (R143). -/
theorem test_V40_11 : after ((base [(0x100, 0xE0), (0x101, 0x80), (0x147, 0x0)] []).setA 0x66)
    (fun t => (t.flags.pack, t.pc, t.rawGet 0xFF80, t.cycles)) =
    some (0x00, 0x0102, 0x66, 12) := by decide +kernel
/-- LDH A,(0x44): high page load of LY (00 in B0) (R142). -/
theorem test_V40_12 : after ((base [(0x100, 0xF0), (0x101, 0x44), (0x147, 0x0)] []).setA 0x55)
    (fun t => (t.a, t.flags.pack, t.pc, t.cycles)) =
    some (0x00, 0x00, 0x0102, 12) := by decide +kernel
/-- LD (C),A: high page store through C: address FF00+C (R145). -/
theorem test_V40_13 : after (((base [(0x100, 0xE2), (0x147, 0x0)] []).setA 0xE4).setC 0x47)
    (fun t => (t.flags.pack, t.pc, t.rawGet 0xFF47, t.cycles)) =
    some (0x00, 0x0101, 0xE4, 8) := by decide +kernel
/-- LD A,(C): high page load through C (R144). -/
theorem test_V40_14 : after ((base [(0x100, 0xF2), (0x147, 0x0)] [(0xFF81, 0x9A)]).setC 0x81)
    (fun t => (t.a, t.flags.pack, t.pc, t.cycles)) =
    some (0x9A, 0x00, 0x0101, 8) := by decide +kernel
/-- LD (0xE000),A: absolute store into the echo mirror lands at C000 (R141). -/
theorem test_V40_15 : after ((base [(0x100, 0xEA), (0x101, 0x0), (0x102, 0xE0), (0x147, 0x0)] []).setA 0x5A)
    (fun t => (t.flags.pack, t.pc, t.rawGet 0xC000, t.cycles)) =
    some (0x00, 0x0103, 0x5A, 16) := by decide +kernel
/-- LD A,(0xFEA0): absolute load from the unusable region reads FF (R140). -/
theorem test_V40_16 : after (base [(0x100, 0xFA), (0x101, 0xA0), (0x102, 0xFE), (0x147, 0x0)] [])
    (fun t => (t.a, t.flags.pack, t.pc, t.cycles)) =
    some (0xFF, 0x00, 0x0103, 16) := by decide +kernel
/-- LD (0x0150),A: absolute store into plain ROM is discarded (R141). -/
theorem test_V40_17 : after ((base [(0x100, 0xEA), (0x101, 0x50), (0x102, 0x1), (0x147, 0x0)] []).setA 0x77)
    (fun t => (t.flags.pack, t.pc, t.cycles)) =
    some (0x00, 0x0103, 16) := by decide +kernel
/-- LD (HL),A: store into the unusable region is discarded (R134). -/
theorem test_V40_18 : after ((((base [(0x100, 0x77), (0x147, 0x0)] []).setA 0x12).setH 0xFE).setL 0xB0)
    (fun t => (t.flags.pack, t.pc, t.cycles)) =
    some (0x00, 0x0101, 8) := by decide +kernel
/-- LD SP,0xD000: immediate low byte first (R161). -/
theorem test_V41_01 : after (base [(0x100, 0x31), (0x101, 0x0), (0x102, 0xD0), (0x147, 0x0)] [])
    (fun t => (t.flags.pack, t.sp, t.pc, t.cycles)) =
    some (0x00, 0xD000, 0x0103, 12) := by decide +kernel
/-- LD (0xC100),SP: SP stored low byte at the lower address (R162). -/
theorem test_V41_02 : after ((base [(0x100, 0x8), (0x101, 0x0), (0x102, 0xC1), (0x147, 0x0)] []).setSp 0xBEEF)
    (fun t => (t.flags.pack, t.pc, t.rawGet 0xC100, t.rawGet 0xC101, t.cycles)) =
    some (0x00, 0x0103, 0xEF, 0xBE, 20) := by decide +kernel
/-- LD SP,HL: LD SP,HL, 8 cycles, no flags (R163). -/
theorem test_V41_03 : after ((((base [(0x100, 0xF9), (0x147, 0x0)] []).setFlags (Flags.unpack 0xF0)).setH 0xC1).setL 0x23)
    (fun t => (t.flags.pack, t.sp, t.pc, t.cycles)) =
    some (0xF0, 0xC123, 0x0101, 8) := by decide +kernel
/-- PUSH BC: push: high byte at SP-1, low byte at SP-2 (R165). -/
theorem test_V41_04 : after (((base [(0x100, 0xC5), (0x147, 0x0)] []).setB 0x12).setC 0x34)
    (fun t => (t.flags.pack, t.sp, t.pc, t.rawGet 0xFFFC, t.rawGet 0xFFFD, t.cycles)) =
    some (0x00, 0xFFFC, 0x0101, 0x34, 0x12, 16) := by decide +kernel
/-- POP DE: pop: low byte from SP, high from SP+1 (R167). -/
theorem test_V41_05 : after ((base [(0x100, 0xD1), (0x147, 0x0)] [(0xC100, 0xCD), (0xC101, 0xAB)]).setSp 0xC100)
    (fun t => (t.flags.pack, t.d, t.e, t.sp, t.pc, t.cycles)) =
    some (0x00, 0xAB, 0xCD, 0xC102, 0x0101, 12) := by decide +kernel
/-- PUSH AF: push AF stores the packed status byte: low nibble zero (R166). -/
theorem test_V41_06 : after ((((base [(0x100, 0xF5), (0x147, 0x0)] []).setA 0x9C).setFlags (Flags.unpack 0xF0)).setSp 0xD000)
    (fun t => (t.flags.pack, t.sp, t.pc, t.rawGet 0xCFFE, t.rawGet 0xCFFF, t.cycles)) =
    some (0xF0, 0xCFFE, 0x0101, 0xF0, 0x9C, 16) := by decide +kernel
/-- PUSH AF: push AF with all flags clear (R166). -/
theorem test_V41_07 : after (((base [(0x100, 0xF5), (0x147, 0x0)] []).setA 0x01).setSp 0xD000)
    (fun t => (t.flags.pack, t.sp, t.pc, t.rawGet 0xCFFF, t.rawGet 0xCFFE, t.cycles)) =
    some (0x00, 0xCFFE, 0x0101, 0x01, 0x00, 16) := by decide +kernel
/-- POP AF: pop AF: bits 3..0 of the popped byte are lost; flags from bits 7..4 (R168). -/
theorem test_V41_08 : after ((base [(0x100, 0xF1), (0x147, 0x0)] [(0xC100, 0xFF), (0xC101, 0x12)]).setSp 0xC100)
    (fun t => (t.a, t.flags.pack, t.sp, t.pc, t.cycles)) =
    some (0x12, 0xF0, 0xC102, 0x0101, 12) := by decide +kernel
/-- LD HL,SP+2: LD HL,SP+e: flags from the low byte addition, Z=N=0 (R164). -/
theorem test_V41_10 : after ((base [(0x100, 0xF8), (0x101, 0x2), (0x147, 0x0)] []).setFlags (Flags.unpack 0xC0))
    (fun t => (t.flags.pack, t.pc, t.cycles)) =
    some (0x30, 0x0102, 12) := by decide +kernel
/-- LD HL,SP-1: e = -1: FFFE + FF on the low byte carries in both nibbles (R164). -/
theorem test_V41_11 : after (base [(0x100, 0xF8), (0x101, 0xFF), (0x147, 0x0)] [])
    (fun t => (t.flags.pack, t.h, t.l, t.pc, t.cycles)) =
    some (0x30, 0xFF, 0xFD, 0x0102, 12) := by decide +kernel
/-- LD HL,SP+1: SP = 00FF: half carry and carry from the low byte; result 0100 (R164). -/
theorem test_V41_12 : after ((base [(0x100, 0xF8), (0x101, 0x1), (0x147, 0x0)] []).setSp 0x00FF)
    (fun t => (t.flags.pack, t.h, t.pc, t.cycles)) =
    some (0x30, 0x01, 0x0102, 12) := by decide +kernel
/-- LD HL,SP-128: e = -128 from SP = 0000 wraps to FF80; no carries (R164). -/
theorem test_V41_13 : after ((base [(0x100, 0xF8), (0x101, 0x80), (0x147, 0x0)] []).setSp 0x0000)
    (fun t => (t.flags.pack, t.h, t.l, t.pc, t.cycles)) =
    some (0x00, 0xFF, 0x80, 0x0102, 12) := by decide +kernel
/-- PUSH HL: push with SP = 0001 wraps: bytes go to 0000 (ROM, discarded) and FFFF (IE) (R165). -/
theorem test_V41_14 : after ((((base [(0x100, 0xE5), (0x147, 0x0)] []).setH 0xA5).setL 0x5A).setSp 0x0001)
    (fun t => (t.flags.pack, t.sp, t.pc, t.rawGet 0xFFFF, t.cycles)) =
    some (0x00, 0xFFFF, 0x0101, 0x5A, 16) := by decide +kernel
/-- POP BC: pop with SP = FFFF wraps: low byte from FFFF, high byte from 0000 (ROM) (R167). -/
theorem test_V41_15 : after ((base [(0x0, 0x31), (0x100, 0xC1), (0x147, 0x0)] [(0xFFFF, 0x1F)]).setSp 0xFFFF)
    (fun t => (t.flags.pack, t.b, t.c, t.sp, t.pc, t.cycles)) =
    some (0x00, 0x31, 0x1F, 0x0001, 0x0101, 12) := by decide +kernel
/-- ADC A,B: ADC with carry-in 1: 0F + 00 + 1 half-carries (R179). -/
theorem test_V42_01 : after (((base [(0x100, 0x88), (0x147, 0x0)] []).setA 0x0F).setFlags (Flags.unpack 0x10))
    (fun t => (t.a, t.flags.pack, t.pc, t.cycles)) =
    some (0x10, 0x20, 0x0101, 4) := by decide +kernel
/-- ADC A,0xFF: ADC with carry-in 1: 00 + FF + 1 = 100: result 00 with Z, H and C (R181). -/
theorem test_V42_02 : after ((base [(0x100, 0xCE), (0x101, 0xFF), (0x147, 0x0)] []).setFlags (Flags.unpack 0x10))
    (fun t => (t.flags.pack, t.pc, t.cycles)) =
    some (0xB0, 0x0102, 8) := by decide +kernel
/-- ADC A,A: ADC A,A with carry-in: 80 + 80 + 1 = 101 (R179). -/
theorem test_V42_03 : after (((base [(0x100, 0x8F), (0x147, 0x0)] []).setA 0x80).setFlags (Flags.unpack 0x10))
    (fun t => (t.a, t.flags.pack, t.pc, t.cycles)) =
    some (0x01, 0x10, 0x0101, 4) := by decide +kernel
/-- SUB B: SUB equal values: zero, N set, no borrow (R182). -/
theorem test_V42_04 : after (((base [(0x100, 0x90), (0x147, 0x0)] []).setA 0x3E).setB 0x3E)
    (fun t => (t.a, t.flags.pack, t.pc, t.cycles)) =
    some (0x00, 0xC0, 0x0101, 4) := by decide +kernel
/-- SUB 0x0F: SUB with nibble borrow only (R184). -/
theorem test_V42_05 : after ((base [(0x100, 0xD6), (0x101, 0xF), (0x147, 0x0)] []).setA 0x3E)
    (fun t => (t.a, t.flags.pack, t.pc, t.cycles)) =
    some (0x2F, 0x60, 0x0102, 8) := by decide +kernel
/-- SUB 0x40: SUB with full borrow only (R184). -/
theorem test_V42_06 : after ((base [(0x100, 0xD6), (0x101, 0x40), (0x147, 0x0)] []).setA 0x3E)
    (fun t => (t.a, t.flags.pack, t.pc, t.cycles)) =
    some (0xFE, 0x50, 0x0102, 8) := by decide +kernel
/-- SUB A: SUB A always gives 00 with Z=1 N=1 H=0 C=0 (R182). -/
theorem test_V42_07 : after (((base [(0x100, 0x97), (0x147, 0x0)] []).setA 0xC7).setFlags (Flags.unpack 0x30))
    (fun t => (t.a, t.flags.pack, t.pc, t.cycles)) =
    some (0x00, 0xC0, 0x0101, 4) := by decide +kernel
/-- SBC A,B: SBC with carry-in: 00 - 00 - 1 = FF, both borrows (R185). -/
theorem test_V42_08 : after ((base [(0x100, 0x98), (0x147, 0x0)] []).setFlags (Flags.unpack 0x10))
    (fun t => (t.a, t.flags.pack, t.pc, t.cycles)) =
    some (0xFF, 0x70, 0x0101, 4) := by decide +kernel
/-- SBC A,0x0F: SBC: low nibble 0 < F + 1: the carry-in counts in the half-borrow (R187). -/
theorem test_V42_09 : after (((base [(0x100, 0xDE), (0x101, 0xF), (0x147, 0x0)] []).setA 0x10).setFlags (Flags.unpack 0x10))
    (fun t => (t.a, t.flags.pack, t.pc, t.cycles)) =
    some (0x00, 0xE0, 0x0102, 8) := by decide +kernel
/-- SBC A,A: SBC A,A with carry-in 1 gives FF and keeps the borrow (R185). -/
theorem test_V42_10 : after (((base [(0x100, 0x9F), (0x147, 0x0)] []).setA 0x42).setFlags (Flags.unpack 0x10))
    (fun t => (t.a, t.flags.pack, t.pc, t.cycles)) =
    some (0xFF, 0x70, 0x0101, 4) := by decide +kernel
/-- CP B: CP: A unchanged, flags as SUB (R197). -/
theorem test_V42_11 : after (((base [(0x100, 0xB8), (0x147, 0x0)] []).setA 0x3C).setB 0x40)
    (fun t => (t.flags.pack, t.pc, t.cycles)) =
    some (0x50, 0x0101, 4) := by decide +kernel
/-- CP 0x3C: CP equal: Z (R199). -/
theorem test_V42_12 : after ((base [(0x100, 0xFE), (0x101, 0x3C), (0x147, 0x0)] []).setA 0x3C)
    (fun t => (t.flags.pack, t.pc, t.cycles)) =
    some (0xC0, 0x0102, 8) := by decide +kernel
/-- CP (HL): CP (HL) (R198). -/
theorem test_V42_13 : after (((base [(0x100, 0xBE), (0x147, 0x0)] [(0xC000, 0x1)]).setA 0x10).setH 0xC0)
    (fun t => (t.flags.pack, t.pc, t.cycles)) =
    some (0x60, 0x0101, 8) := by decide +kernel
/-- AND B: AND: H always set, C cleared (R188). -/
theorem test_V42_14 : after ((((base [(0x100, 0xA0), (0x147, 0x0)] []).setA 0x5A).setFlags (Flags.unpack 0x10)).setB 0x3F)
    (fun t => (t.a, t.flags.pack, t.pc, t.cycles)) =
    some (0x1A, 0x20, 0x0101, 4) := by decide +kernel
/-- AND 0x00: AND to zero: Z and H (R190). -/
theorem test_V42_15 : after ((base [(0x100, 0xE6), (0x101, 0x0), (0x147, 0x0)] []).setA 0xFF)
    (fun t => (t.a, t.flags.pack, t.pc, t.cycles)) =
    some (0x00, 0xA0, 0x0102, 8) := by decide +kernel
/-- OR B: OR: all of N, H, C cleared (R194). -/
theorem test_V42_16 : after ((((base [(0x100, 0xB0), (0x147, 0x0)] []).setA 0x5A).setFlags (Flags.unpack 0x70)).setB 0x0F)
    (fun t => (t.a, t.flags.pack, t.pc, t.cycles)) =
    some (0x5F, 0x00, 0x0101, 4) := by decide +kernel
/-- OR A: OR A with A=00: Z only (R194). -/
theorem test_V42_17 : after ((base [(0x100, 0xB7), (0x147, 0x0)] []).setFlags (Flags.unpack 0x70))
    (fun t => (t.flags.pack, t.pc, t.cycles)) =
    some (0x80, 0x0101, 4) := by decide +kernel
/-- XOR A: XOR A: the usual way to clear A; Z set, others clear (R191). -/
theorem test_V42_18 : after (((base [(0x100, 0xAF), (0x147, 0x0)] []).setA 0xC3).setFlags (Flags.unpack 0x70))
    (fun t => (t.a, t.flags.pack, t.pc, t.cycles)) =
    some (0x00, 0x80, 0x0101, 4) := by decide +kernel
/-- XOR 0xFF: XOR n (R193). -/
theorem test_V42_19 : after ((base [(0x100, 0xEE), (0x101, 0xFF), (0x147, 0x0)] []).setA 0x0F)
    (fun t => (t.a, t.flags.pack, t.pc, t.cycles)) =
    some (0xF0, 0x00, 0x0102, 8) := by decide +kernel
/-- INC B: INC: H from low nibble F; C kept (1) (R200). -/
theorem test_V42_20 : after (((base [(0x100, 0x4), (0x147, 0x0)] []).setFlags (Flags.unpack 0x10)).setB 0x0F)
    (fun t => (t.flags.pack, t.b, t.pc, t.cycles)) =
    some (0x30, 0x10, 0x0101, 4) := by decide +kernel
/-- INC (HL): INC (HL): FF to 00, 12 cycles (R201). -/
theorem test_V42_21 : after ((base [(0x100, 0x34), (0x147, 0x0)] [(0xC000, 0xFF)]).setH 0xC0)
    (fun t => (t.flags.pack, t.pc, t.rawGet 0xC000, t.cycles)) =
    some (0xA0, 0x0101, 0x00, 12) := by decide +kernel
/-- DEC B: DEC: 01 to 00: Z and N, no half-borrow (R202). -/
theorem test_V42_22 : after ((base [(0x100, 0x5), (0x147, 0x0)] []).setB 0x01)
    (fun t => (t.flags.pack, t.b, t.pc, t.cycles)) =
    some (0xC0, 0x00, 0x0101, 4) := by decide +kernel
/-- DEC A: DEC: 00 to FF: half-borrow; C kept (0) (R202). -/
theorem test_V42_23 : after (base [(0x100, 0x3D), (0x147, 0x0)] [])
    (fun t => (t.a, t.flags.pack, t.pc, t.cycles)) =
    some (0xFF, 0x60, 0x0101, 4) := by decide +kernel
/-- DEC (HL): DEC (HL): 10 to 0F: half-borrow (R203). -/
theorem test_V42_24 : after ((base [(0x100, 0x35), (0x147, 0x0)] [(0xC000, 0x10)]).setH 0xC0)
    (fun t => (t.flags.pack, t.pc, t.rawGet 0xC000, t.cycles)) =
    some (0x60, 0x0101, 0x0F, 12) := by decide +kernel
/-- DAA: DAA after addition: 9A needs both corrections, result 00 with C (R204). -/
theorem test_V42_25 : after ((base [(0x100, 0x27), (0x147, 0x0)] []).setA 0x9A)
    (fun t => (t.a, t.flags.pack, t.pc, t.cycles)) =
    some (0x00, 0x90, 0x0101, 4) := by decide +kernel
/-- DAA: DAA after subtraction with H and C: minus 66 (R204). -/
theorem test_V42_31 : after (((base [(0x100, 0x27), (0x147, 0x0)] []).setA 0x99).setFlags (Flags.unpack 0x70))
    (fun t => (t.a, t.flags.pack, t.pc, t.cycles)) =
    some (0x33, 0x50, 0x0101, 4) := by decide +kernel
/-- CPL: CPL: N and H set; Z and C kept (R205). -/
theorem test_V42_36 : after (((base [(0x100, 0x2F), (0x147, 0x0)] []).setA 0x35).setFlags (Flags.unpack 0x90))
    (fun t => (t.a, t.flags.pack, t.pc, t.cycles)) =
    some (0xCA, 0xF0, 0x0101, 4) := by decide +kernel
/-- SCF: SCF: N and H cleared; Z kept (R206). -/
theorem test_V42_37 : after ((base [(0x100, 0x37), (0x147, 0x0)] []).setFlags (Flags.unpack 0xE0))
    (fun t => (t.flags.pack, t.pc, t.cycles)) =
    some (0x90, 0x0101, 4) := by decide +kernel
/-- CCF: CCF: C toggled 1 to 0; N and H cleared; Z kept (R207). -/
theorem test_V42_38 : after ((base [(0x100, 0x3F), (0x147, 0x0)] []).setFlags (Flags.unpack 0xF0))
    (fun t => (t.flags.pack, t.pc, t.cycles)) =
    some (0x80, 0x0101, 4) := by decide +kernel
/-- CCF: CCF: C toggled 0 to 1 (R207). -/
theorem test_V42_39 : after (base [(0x100, 0x3F), (0x147, 0x0)] [])
    (fun t => (t.flags.pack, t.pc, t.cycles)) =
    some (0x10, 0x0101, 4) := by decide +kernel
/-- ADD HL,BC: carry out of bit 11 only; Z kept (1) (R221). -/
theorem test_V43_01 : after (((((base [(0x100, 0x9), (0x147, 0x0)] []).setFlags (Flags.unpack 0x80)).setC 0x01).setH 0x0F).setL 0xFF)
    (fun t => (t.flags.pack, t.h, t.l, t.pc, t.cycles)) =
    some (0xA0, 0x10, 0x00, 0x0101, 8) := by decide +kernel
/-- ADD HL,DE: carry out of bit 15 only (R221). -/
theorem test_V43_02 : after (((base [(0x100, 0x19), (0x147, 0x0)] []).setD 0x80).setH 0x80)
    (fun t => (t.flags.pack, t.h, t.pc, t.cycles)) =
    some (0x10, 0x00, 0x0101, 8) := by decide +kernel
/-- ADD HL,HL: ADD HL,HL doubles: 8A23 gives 1446 with both carries (R221). -/
theorem test_V43_03 : after (((base [(0x100, 0x29), (0x147, 0x0)] []).setH 0x8A).setL 0x23)
    (fun t => (t.flags.pack, t.h, t.l, t.pc, t.cycles)) =
    some (0x30, 0x14, 0x46, 0x0101, 8) := by decide +kernel
/-- ADD HL,SP: ADD HL,SP; N cleared (R221). -/
theorem test_V43_04 : after ((((base [(0x100, 0x39), (0x147, 0x0)] []).setFlags (Flags.unpack 0x40)).setL 0x01).setSp 0xFFFF)
    (fun t => (t.flags.pack, t.l, t.pc, t.cycles)) =
    some (0x30, 0x00, 0x0101, 8) := by decide +kernel
/-- INC BC: INC rr wraps, no flags (R222). -/
theorem test_V43_05 : after ((((base [(0x100, 0x3), (0x147, 0x0)] []).setFlags (Flags.unpack 0xF0)).setB 0xFF).setC 0xFF)
    (fun t => (t.flags.pack, t.b, t.c, t.pc, t.cycles)) =
    some (0xF0, 0x00, 0x00, 0x0101, 8) := by decide +kernel
/-- DEC HL: DEC rr wraps, no flags (R223). -/
theorem test_V43_06 : after (base [(0x100, 0x2B), (0x147, 0x0)] [])
    (fun t => (t.flags.pack, t.h, t.l, t.pc, t.cycles)) =
    some (0x00, 0xFF, 0xFF, 0x0101, 8) := by decide +kernel
/-- INC SP: INC SP (R222). -/
theorem test_V43_07 : after ((base [(0x100, 0x33), (0x147, 0x0)] []).setSp 0xFFFF)
    (fun t => (t.flags.pack, t.sp, t.pc, t.cycles)) =
    some (0x00, 0x0000, 0x0101, 8) := by decide +kernel
/-- ADD SP,+1: ADD SP,e: flags from the low byte; Z and N cleared (R224). -/
theorem test_V43_08 : after (((base [(0x100, 0xE8), (0x101, 0x1), (0x147, 0x0)] []).setFlags (Flags.unpack 0xC0)).setSp 0x00FF)
    (fun t => (t.flags.pack, t.sp, t.pc, t.cycles)) =
    some (0x30, 0x0100, 0x0102, 16) := by decide +kernel
/-- ADD SP,-1: ADD SP,-1 from 0000 wraps to FFFF; no carries (00 + FF) (R224). -/
theorem test_V43_09 : after ((base [(0x100, 0xE8), (0x101, 0xFF), (0x147, 0x0)] []).setSp 0x0000)
    (fun t => (t.flags.pack, t.sp, t.pc, t.cycles)) =
    some (0x00, 0xFFFF, 0x0102, 16) := by decide +kernel
/-- ADD SP,-2: ADD SP,-2: D002 + FE on the low byte carries, half carry not (R224). -/
theorem test_V43_10 : after ((base [(0x100, 0xE8), (0x101, 0xFE), (0x147, 0x0)] []).setSp 0xD002)
    (fun t => (t.flags.pack, t.sp, t.pc, t.cycles)) =
    some (0x30, 0xD000, 0x0102, 16) := by decide +kernel
/-- RLCA: RLCA of 00: result 00 and still Z=0 (R231). -/
theorem test_V44_01 : after ((base [(0x100, 0x7), (0x147, 0x0)] []).setFlags (Flags.unpack 0xF0))
    (fun t => (t.flags.pack, t.pc, t.cycles)) =
    some (0x00, 0x0101, 4) := by decide +kernel
/-- RLC A: RLC A of 00: same value, but Z=1 on the extended page (R235). -/
theorem test_V44_02 : after ((base [(0x100, 0xCB), (0x101, 0x7), (0x147, 0x0)] []).setFlags (Flags.unpack 0x70))
    (fun t => (t.flags.pack, t.pc, t.cycles)) =
    some (0x80, 0x0102, 8) := by decide +kernel
/-- RLA: RLA: carry in, bit 7 out (R232). -/
theorem test_V44_03 : after (((base [(0x100, 0x17), (0x147, 0x0)] []).setA 0x95).setFlags (Flags.unpack 0x10))
    (fun t => (t.a, t.flags.pack, t.pc, t.cycles)) =
    some (0x2B, 0x10, 0x0101, 4) := by decide +kernel
/-- RRA: RRA: carry 0 in, bit 0 out (R234). -/
theorem test_V44_04 : after ((base [(0x100, 0x1F), (0x147, 0x0)] []).setA 0x81)
    (fun t => (t.a, t.flags.pack, t.pc, t.cycles)) =
    some (0x40, 0x10, 0x0101, 4) := by decide +kernel
/-- RLC (HL): RLC (HL): 16 cycles, read-modify-write (R236). -/
theorem test_V44_05 : after ((base [(0x100, 0xCB), (0x101, 0x6), (0x147, 0x0)] [(0xC000, 0x85)]).setH 0xC0)
    (fun t => (t.flags.pack, t.pc, t.rawGet 0xC000, t.cycles)) =
    some (0x10, 0x0102, 0x0B, 16) := by decide +kernel
/-- RL (HL): RL (HL) with carry in (R240). -/
theorem test_V44_06 : after (((base [(0x100, 0xCB), (0x101, 0x16), (0x147, 0x0)] [(0xC000, 0x80)]).setFlags (Flags.unpack 0x10)).setH 0xC0)
    (fun t => (t.flags.pack, t.pc, t.rawGet 0xC000, t.cycles)) =
    some (0x10, 0x0102, 0x01, 16) := by decide +kernel
/-- SLA B: SLA to zero: Z and C (R243). -/
theorem test_V44_07 : after ((base [(0x100, 0xCB), (0x101, 0x20), (0x147, 0x0)] []).setB 0x80)
    (fun t => (t.flags.pack, t.b, t.pc, t.cycles)) =
    some (0x90, 0x00, 0x0102, 8) := by decide +kernel
/-- SRA A: SRA of 01: result 00, Z and C (R245). -/
theorem test_V44_08 : after ((base [(0x100, 0xCB), (0x101, 0x2F), (0x147, 0x0)] []).setA 0x01)
    (fun t => (t.a, t.flags.pack, t.pc, t.cycles)) =
    some (0x00, 0x90, 0x0102, 8) := by decide +kernel
/-- SRA B: SRA keeps the sign (R245). -/
theorem test_V44_09 : after ((base [(0x100, 0xCB), (0x101, 0x28), (0x147, 0x0)] []).setB 0x8A)
    (fun t => (t.flags.pack, t.b, t.pc, t.cycles)) =
    some (0x00, 0xC5, 0x0102, 8) := by decide +kernel
/-- SRL B: SRL of 01: result 00, Z and C (R249). -/
theorem test_V44_10 : after ((base [(0x100, 0xCB), (0x101, 0x38), (0x147, 0x0)] []).setB 0x01)
    (fun t => (t.flags.pack, t.b, t.pc, t.cycles)) =
    some (0x90, 0x00, 0x0102, 8) := by decide +kernel
/-- SWAP A: SWAP: nibbles exchanged; all of N, H, C cleared (R247). -/
theorem test_V44_11 : after (((base [(0x100, 0xCB), (0x101, 0x37), (0x147, 0x0)] []).setA 0xF1).setFlags (Flags.unpack 0x70))
    (fun t => (t.a, t.flags.pack, t.pc, t.cycles)) =
    some (0x1F, 0x00, 0x0102, 8) := by decide +kernel
/-- SWAP B: SWAP of 00: Z (R247). -/
theorem test_V44_12 : after (base [(0x100, 0xCB), (0x101, 0x30), (0x147, 0x0)] [])
    (fun t => (t.flags.pack, t.pc, t.cycles)) =
    some (0x80, 0x0102, 8) := by decide +kernel
/-- SWAP (HL): SWAP (HL) (R248). -/
theorem test_V44_13 : after ((base [(0x100, 0xCB), (0x101, 0x36), (0x147, 0x0)] [(0xC000, 0x2D)]).setH 0xC0)
    (fun t => (t.flags.pack, t.pc, t.rawGet 0xC000, t.cycles)) =
    some (0x00, 0x0102, 0xD2, 16) := by decide +kernel
/-- BIT 7,A: BIT 7,A with the bit set: Z=0, N=0, H=1, C kept (1) (R251). -/
theorem test_V44_14 : after (((base [(0x100, 0xCB), (0x101, 0x7F), (0x147, 0x0)] []).setA 0x80).setFlags (Flags.unpack 0xD0))
    (fun t => (t.flags.pack, t.pc, t.cycles)) =
    some (0x30, 0x0102, 8) := by decide +kernel
/-- BIT 0,A: BIT 0,A with the bit clear: Z=1 (R251). -/
theorem test_V44_15 : after ((base [(0x100, 0xCB), (0x101, 0x47), (0x147, 0x0)] []).setA 0xFE)
    (fun t => (t.flags.pack, t.pc, t.cycles)) =
    some (0xA0, 0x0102, 8) := by decide +kernel
/-- BIT 3,(HL): BIT 3,(HL): 12 cycles, memory not written (R252). -/
theorem test_V44_16 : after ((base [(0x100, 0xCB), (0x101, 0x5E), (0x147, 0x0)] [(0xC000, 0x8)]).setH 0xC0)
    (fun t => (t.flags.pack, t.pc, t.cycles)) =
    some (0x20, 0x0102, 12) := by decide +kernel
/-- RES 0,A: RES 0,A: no flags (R253). -/
theorem test_V44_17 : after (((base [(0x100, 0xCB), (0x101, 0x87), (0x147, 0x0)] []).setA 0xFF).setFlags (Flags.unpack 0xF0))
    (fun t => (t.a, t.flags.pack, t.pc, t.cycles)) =
    some (0xFE, 0xF0, 0x0102, 8) := by decide +kernel
/-- RES 7,(HL): RES 7,(HL): 16 cycles (R254). -/
theorem test_V44_18 : after ((base [(0x100, 0xCB), (0x101, 0xBE), (0x147, 0x0)] [(0xC000, 0xFF)]).setH 0xC0)
    (fun t => (t.flags.pack, t.pc, t.rawGet 0xC000, t.cycles)) =
    some (0x00, 0x0102, 0x7F, 16) := by decide +kernel
/-- SET 7,B: SET 7,B: no flags (R255). -/
theorem test_V44_19 : after (base [(0x100, 0xCB), (0x101, 0xF8), (0x147, 0x0)] [])
    (fun t => (t.flags.pack, t.b, t.pc, t.cycles)) =
    some (0x00, 0x80, 0x0102, 8) := by decide +kernel
/-- SET 0,(HL): SET 0,(HL) (R256). -/
theorem test_V44_20 : after ((base [(0x100, 0xCB), (0x101, 0xC6), (0x147, 0x0)] [(0xC000, 0x10)]).setH 0xC0)
    (fun t => (t.flags.pack, t.pc, t.rawGet 0xC000, t.cycles)) =
    some (0x00, 0x0102, 0x11, 16) := by decide +kernel
/-- SET 3,E: SET 3,E on a bit already set: no change (R255). -/
theorem test_V44_21 : after ((base [(0x100, 0xCB), (0x101, 0xDB), (0x147, 0x0)] []).setE 0x08)
    (fun t => (t.flags.pack, t.pc, t.cycles)) =
    some (0x00, 0x0102, 8) := by decide +kernel
/-- JP 0x1234: absolute jump, 16 cycles (R271). -/
theorem test_V45_01 : after (base [(0x100, 0xC3), (0x101, 0x34), (0x102, 0x12), (0x147, 0x0)] [])
    (fun t => (t.flags.pack, t.pc, t.cycles)) =
    some (0x00, 0x1234, 16) := by decide +kernel
/-- JP HL: JP HL: 4 cycles; no memory access (R273). -/
theorem test_V45_02 : after ((base [(0x100, 0xE9), (0x147, 0x0)] []).setH 0xC0)
    (fun t => (t.flags.pack, t.pc, t.cycles)) =
    some (0x00, 0xC000, 4) := by decide +kernel
/-- JR +5: relative: 0102 + 5 (R274). -/
theorem test_V45_03 : after (base [(0x100, 0x18), (0x101, 0x5), (0x147, 0x0)] [])
    (fun t => (t.flags.pack, t.pc, t.cycles)) =
    some (0x00, 0x0107, 12) := by decide +kernel
/-- JR -2: e = -2: jumps to itself (an endless loop of 12 cycles) (R274). -/
theorem test_V45_04 : after (base [(0x100, 0x18), (0x101, 0xFE), (0x147, 0x0)] [])
    (fun t => (t.flags.pack, t.pc, t.cycles)) =
    some (0x00, 0x0100, 12) := by decide +kernel
/-- JR -128: e = -128: 0102 - 128 = 0082 (R274). -/
theorem test_V45_05 : after (base [(0x100, 0x18), (0x101, 0x80), (0x147, 0x0)] [])
    (fun t => (t.flags.pack, t.pc, t.cycles)) =
    some (0x00, 0x0082, 12) := by decide +kernel
/-- JR NZ,+16: JR NZ taken (Z=0): 12 cycles (R275). -/
theorem test_V45_06 : after (base [(0x100, 0x20), (0x101, 0x10), (0x147, 0x0)] [])
    (fun t => (t.flags.pack, t.pc, t.cycles)) =
    some (0x00, 0x0112, 12) := by decide +kernel
/-- JR NZ,+16: JR NZ not taken (Z=1): 8 cycles; the operand byte is skipped (R275). -/
theorem test_V45_07 : after ((base [(0x100, 0x20), (0x101, 0x10), (0x147, 0x0)] []).setFlags (Flags.unpack 0x80))
    (fun t => (t.flags.pack, t.pc, t.cycles)) =
    some (0x80, 0x0102, 8) := by decide +kernel
/-- JR C,-5: JR C taken backwards (R275). -/
theorem test_V45_08 : after ((base [(0x100, 0x38), (0x101, 0xFB), (0x147, 0x0)] []).setFlags (Flags.unpack 0x10))
    (fun t => (t.flags.pack, t.pc, t.cycles)) =
    some (0x10, 0x00FD, 12) := by decide +kernel
/-- JR NC,-5: JR NC not taken (R275). -/
theorem test_V45_09 : after ((base [(0x100, 0x30), (0x101, 0xFB), (0x147, 0x0)] []).setFlags (Flags.unpack 0x10))
    (fun t => (t.flags.pack, t.pc, t.cycles)) =
    some (0x10, 0x0102, 8) := by decide +kernel
/-- JP Z,0xC000: JP Z taken: 16 (R272). -/
theorem test_V45_10 : after ((base [(0x100, 0xCA), (0x101, 0x0), (0x102, 0xC0), (0x147, 0x0)] []).setFlags (Flags.unpack 0x80))
    (fun t => (t.flags.pack, t.pc, t.cycles)) =
    some (0x80, 0xC000, 16) := by decide +kernel
/-- JP Z,0xC000: JP Z not taken: 12 (R272). -/
theorem test_V45_11 : after (base [(0x100, 0xCA), (0x101, 0x0), (0x102, 0xC0), (0x147, 0x0)] [])
    (fun t => (t.flags.pack, t.pc, t.cycles)) =
    some (0x00, 0x0103, 12) := by decide +kernel
/-- CALL 0x0200: CALL: pushes 0103, high byte at FFFD (R276). -/
theorem test_V45_12 : after (base [(0x100, 0xCD), (0x101, 0x0), (0x102, 0x2), (0x147, 0x0)] [])
    (fun t => (t.flags.pack, t.sp, t.pc, t.rawGet 0xFFFC, t.rawGet 0xFFFD, t.cycles)) =
    some (0x00, 0xFFFC, 0x0200, 0x03, 0x01, 24) := by decide +kernel
/-- CALL C,0x0200: CALL C not taken: 12 cycles, nothing pushed (R277). -/
theorem test_V45_13 : after (base [(0x100, 0xDC), (0x101, 0x0), (0x102, 0x2), (0x147, 0x0)] [])
    (fun t => (t.flags.pack, t.pc, t.cycles)) =
    some (0x00, 0x0103, 12) := by decide +kernel
/-- CALL NC,0x0200: CALL NC taken: 24 cycles (R277). -/
theorem test_V45_14 : after (base [(0x100, 0xD4), (0x101, 0x0), (0x102, 0x2), (0x147, 0x0)] [])
    (fun t => (t.flags.pack, t.sp, t.pc, t.rawGet 0xFFFC, t.rawGet 0xFFFD, t.cycles)) =
    some (0x00, 0xFFFC, 0x0200, 0x03, 0x01, 24) := by decide +kernel
/-- RET: RET: pops low byte first (R278). -/
theorem test_V45_15 : after ((base [(0x100, 0xC9), (0x147, 0x0)] [(0xC100, 0x3), (0xC101, 0x1)]).setSp 0xC100)
    (fun t => (t.flags.pack, t.sp, t.pc, t.cycles)) =
    some (0x00, 0xC102, 0x0103, 16) := by decide +kernel
/-- RET NZ: RET NZ taken: 20 cycles (R279). -/
theorem test_V45_16 : after ((base [(0x100, 0xC0), (0x147, 0x0)] [(0xC100, 0x3), (0xC101, 0x1)]).setSp 0xC100)
    (fun t => (t.flags.pack, t.sp, t.pc, t.cycles)) =
    some (0x00, 0xC102, 0x0103, 20) := by decide +kernel
/-- RET NZ: RET NZ not taken: 8 cycles, SP unchanged (R279). -/
theorem test_V45_17 : after (((base [(0x100, 0xC0), (0x147, 0x0)] [(0xC100, 0x3), (0xC101, 0x1)]).setFlags (Flags.unpack 0x80)).setSp 0xC100)
    (fun t => (t.flags.pack, t.pc, t.cycles)) =
    some (0x80, 0x0101, 8) := by decide +kernel
/-- RETI: RETI: as RET and IME = 1 at once (R280). -/
theorem test_V45_18 : after ((base [(0x100, 0xD9), (0x147, 0x0)] [(0xC100, 0x50), (0xC101, 0x1)]).setSp 0xC100)
    (fun t => (t.flags.pack, t.sp, t.pc, t.ime, t.cycles)) =
    some (0x00, 0xC102, 0x0150, true, 16) := by decide +kernel
/-- RST 38H: RST 38H: pushes 0101, jumps to 0038 (R281). -/
theorem test_V45_19 : after (base [(0x100, 0xFF), (0x147, 0x0)] [])
    (fun t => (t.flags.pack, t.sp, t.pc, t.rawGet 0xFFFC, t.rawGet 0xFFFD, t.cycles)) =
    some (0x00, 0xFFFC, 0x0038, 0x01, 0x01, 16) := by decide +kernel
/-- RST 00H: RST 00H (R281). -/
theorem test_V45_20 : after (base [(0x100, 0xC7), (0x147, 0x0)] [])
    (fun t => (t.flags.pack, t.sp, t.pc, t.rawGet 0xFFFC, t.rawGet 0xFFFD, t.cycles)) =
    some (0x00, 0xFFFC, 0x0000, 0x01, 0x01, 16) := by decide +kernel
/-- NOP: NOP (R290). -/
theorem test_V46_01 : after (base [(0x100, 0x0), (0x147, 0x0)] [])
    (fun t => (t.flags.pack, t.pc, t.cycles)) =
    some (0x00, 0x0101, 4) := by decide +kernel
/-- STOP: STOP: two bytes, `stopped` = 1; no further step may be taken (R292). -/
theorem test_V46_03 : after (base [(0x100, 0x10), (0x101, 0x0), (0x147, 0x0)] [])
    (fun t => (t.flags.pack, t.pc, t.stopped, t.cycles)) =
    some (0x00, 0x0102, true, 4) := by decide +kernel
/-- STOP: STOP: the second byte is not examined, even an undefined value (R292). -/
theorem test_V46_04 : after (base [(0x100, 0x10), (0x101, 0xD3), (0x147, 0x0)] [])
    (fun t => (t.flags.pack, t.pc, t.stopped, t.cycles)) =
    some (0x00, 0x0102, true, 4) := by decide +kernel
/-- DI: DI (R293). -/
theorem test_V46_05 : after ((base [(0x100, 0xF3), (0x147, 0x0)] []).setIme true)
    (fun t => (t.flags.pack, t.pc, t.ime, t.cycles)) =
    some (0x00, 0x0101, false, 4) := by decide +kernel
/-- EI: EI: IME still 0 after the EI itself (R294; R312). -/
theorem test_V46_06 : after (base [(0x100, 0xFB), (0x147, 0x0)] [])
    (fun t => (t.flags.pack, t.pc, t.imeDelay, t.cycles)) =
    some (0x00, 0x0101, 1, 4) := by decide +kernel
/-- UNDEFINED: undefined opcode: fault, PC advanced by one, no cycle count returned (R296; R300). -/
theorem test_V46_10 : after (base [(0x100, 0xD3), (0x147, 0x0)] [])
    (fun t => (t.flags.pack, t.pc, t.fault)) =
    some (0x00, 0x0101, some ⟨0x0100, [0xD3]⟩) := by decide +kernel
/-- UNDEFINED: undefined opcode (R296; R300). -/
theorem test_V46_20 : after (base [(0x100, 0xFD), (0x147, 0x0)] [])
    (fun t => (t.flags.pack, t.pc, t.fault)) =
    some (0x00, 0x0101, some ⟨0x0100, [0xFD]⟩) := by decide +kernel
/-- RLC B: the prefix is not an instruction: CB 00 is RLC B, one step of 8 cycles (R235; R295). -/
theorem test_V46_21 : after ((base [(0x100, 0xCB), (0x101, 0x0), (0x147, 0x0)] []).setB 0x01)
    (fun t => (t.flags.pack, t.b, t.pc, t.cycles)) =
    some (0x00, 0x02, 0x0102, 8) := by decide +kernel
/-- Interrupt service: Timer alone: vector 0050, return address 0100 pushed high byte first, 20 cycles; the NOP is not executed (R303, R310). -/
theorem test_V60_01 : after ((base [(0x100, 0x0), (0x147, 0x0)] [(0xFF0F, 0x4), (0xFFFF, 0x4)]).setIme true)
    (fun t => (t.sp, t.pc, t.ime, t.rawGet 0xFF0F, t.rawGet 0xFFFD, t.rawGet 0xFFFC)) =
    some (0xFFFC, 0x0050, false, 0x00, 0x01, 0x00) := by decide +kernel
/-- NOP: pending but not enabled in IE: no service (R303). -/
theorem test_V60_03 : after ((base [(0x100, 0x0), (0x147, 0x0)] [(0xFF0F, 0x4), (0xFFFF, 0x1B)]).setIme true)
    (fun t => (t.flags.pack, t.pc, t.rawGet 0xFF0F, t.cycles)) =
    some (0x00, 0x0101, 0x04, 4) := by decide +kernel
/-- Interrupt service: all five pending, only Input enabled: vector 0060; the others stay pending (R304). -/
theorem test_V60_04 : after ((base [(0x100, 0x0), (0x147, 0x0)] [(0xFF0F, 0x1F), (0xFFFF, 0x10)]).setIme true)
    (fun t => (t.sp, t.pc, t.ime, t.rawGet 0xFF0F, t.rawGet 0xFFFD, t.cycles)) =
    some (0xFFFC, 0x0060, false, 0x0F, 0x01, 20) := by decide +kernel
/-- Interrupt service: Serial (0058) before Input (R304). -/
theorem test_V60_07 : after ((base [(0x100, 0x0), (0x147, 0x0)] [(0xFF0F, 0x18), (0xFFFF, 0x1F)]).setIme true)
    (fun t => (t.sp, t.pc, t.ime, t.rawGet 0xFF0F, t.rawGet 0xFFFD, t.cycles)) =
    some (0xFFFC, 0x0058, false, 0x10, 0x01, 20) := by decide +kernel

/-! ## The machine step, interrupts and stops -/

/-- V60-12: halted with IME clear and a request enabled: no wake-up, 4 cycles (R315). -/
theorem test_halted_without_ime_stays : after ((base [(0x0100, 0x76), (0x0147, 0x00)] [(0xFF0F, 0x04), (0xFFFF, 0x04)]).setHalted true)
    (fun t => (t.halted, t.pc, t.cycles, t.rawGet 0xFF0F)) = some (true, 0x0100, 4, 0x04) := by decide +kernel
/-- V60-11, step 3: halted with IME set and a request enabled: service, awake, return address the byte after HALT. -/
theorem test_halted_with_request_wakes :
    after ((((base [(0x0147, 0x00)] [(0xFF0F, 0x04), (0xFFFF, 0x04)]).setHalted true).setIme true).setPc 0x0101)
    (fun t => (t.halted, t.pc, t.cycles, t.rawGet 0xFFFD, t.rawGet 0xFFFC, t.sp)) =
      some (false, 0x0050, 20, 0x01, 0x01, 0xFFFC) := by decide +kernel
/-- V60-14: the low byte of the pushed address lands in IE (R310). -/
theorem test_service_push_is_mapped :
    after (((base [(0x0147, 0x00)] [(0xFF0F, 0x01), (0xFFFF, 0x01)]).setSp 0x0001).setIme true)
    (fun t => (t.sp, t.pc, t.rawGet 0xFFFF)) = some (0xFFFF, 0x0040, 0x00) := by decide +kernel
/-- V60-13: an interrupt is serviced before an undefined opcode is fetched (R313). -/
theorem test_service_before_fatal :
    after ((base [(0x0100, 0xD3), (0x0147, 0x00)] [(0xFF0F, 0x01), (0xFFFF, 0x01)]).setIme true)
    (fun t => (t.fault, t.pc)) = some (none, 0x0040) := by decide +kernel
/-- R300, R322: after the fatal exception no step is taken and the machine answers the diagnostic. -/
theorem test_fault_latch_stops :
    stopsWith ((base [] []).setFault (some ⟨0x0100, [0xD3]⟩)) (.unimplementedOpcode 0x0100 [0xD3]) = true := by
  decide +kernel
/-- R322, R386: a stopped machine takes no step. -/
theorem test_stopped_stops : stopsWith ((base [] []).setStopped true) .stopped = true := by decide +kernel
/-- P1, first machine step: the devices advance by the 8 cycles of `LD B,n` (R321). -/
theorem test_machine_step_ticks : stepped (base [(0x0100, 0x06), (0x0101, 0x07), (0x0147, 0x00)] [])
    (fun t => (t.b, t.pc, t.syscnt, t.lcdAcc)) = some (0x07, 0x0102, 0x0008, 8) := by decide +kernel
/-- The word placed by `withFetchWord` runs as the first instruction after reset. -/
theorem test_fetch_word_after_reset : after (State.reset.withFetchWord 24 0x1234C3) (fun t => (t.pc, t.cycles)) =
    some (0x1234, 16) := by decide +kernel
theorem test_fetch_word_extended : after (State.reset.withFetchWord 16 0xCBFF) (fun t => (t.a, t.pc)) =
    some (0x80, 0x0002) := by decide +kernel

/-! ## The timer -/

/-- A state with the counter and the timer registers as given. -/
def timed (cnt : Word) (tac tima tma : Byte) (last pending : Bool) : State :=
  ((((((base [] []).setSyscnt cnt).rawSet 0xFF07 tac).rawSet 0xFF05 tima).rawSet 0xFF06 tma).setLastSample
    last).setPendingOverflow pending

/-- What the timer's vectors list. -/
def timerView (t : State) : Word × Byte × Bool × Bool × Byte :=
  (t.syscnt, t.memRead 0xFF05, t.lastSample, t.pendingOverflow, t.memRead 0xFF0F)

/-- V61-05, V61-06: the period of field 1 is 16. -/
theorem test_V61_05 : timerView ((timed 0 5 0 0 false false).timerAdvance 15) = (0x000F, 0x00, true, false, 0x00) := by
  decide +kernel
theorem test_V61_06 : timerView ((timed 0 5 0 0 false false).timerAdvance 16) = (0x0010, 0x01, false, false, 0x00) := by
  decide +kernel
/-- V61-11, V61-12: the reload and the request come one tick after the wrap. -/
theorem test_V61_11 : timerView ((timed 0 5 0xFF 0xAB false false).timerAdvance 16) = (0x0010, 0x00, false, true, 0x00) := by
  decide +kernel
theorem test_V61_12 : timerView ((timed 0 5 0xFF 0xAB false false).timerAdvance 17) = (0x0011, 0xAB, false, false, 0x04) := by
  decide +kernel
/-- V61-13: a pending overflow is served although the timer is disabled. -/
theorem test_V61_13 : timerView (timed 0x1234 0 0 0x77 false true).timerTick = (0x1235, 0x77, false, false, 0x04) := by
  decide +kernel
/-- V61-15, V61-16: the wrap of the counter counts; a sample of 0 does not. -/
theorem test_V61_15 : timerView (timed 0xFFFF 4 0 0 true false).timerTick = (0x0000, 0x01, false, false, 0x00) := by
  decide +kernel
theorem test_V61_16 : timerView (timed 0x000F 5 0 0 false false).timerTick = (0x0010, 0x00, false, false, 0x00) := by
  decide +kernel
/-- V61-20: a store to DIV clears the counter and the sample, and counts nothing. -/
theorem test_V61_20 : timerView ((timed 0x0208 5 0 0 true false).memWrite 0xFF04 0x99) = (0x0000, 0x00, false, false, 0x00) := by
  decide +kernel
/-- V61-22, V61-24: a store to TAC samples the tap it selects. -/
theorem test_V61_22 : timerView ((timed 0x0208 0 0 0 false false).memWrite 0xFF07 0x05) = (0x0208, 0x00, true, false, 0x00) := by
  decide +kernel
theorem test_V61_24 : timerView ((timed 0x0008 5 0 0 true false).memWrite 0xFF07 0x01) = (0x0008, 0x00, true, false, 0x00) := by
  decide +kernel

/-! ## The display controller -/

/-- A state of the display controller. -/
def lit (m : LcdMode) (acc : Nat) (ly stat lyc : Byte) : State :=
  ((((base [] []).rawSet 0xFF44 ly).rawSet 0xFF41 stat).rawSet 0xFF45 lyc |>.setLcdMode m).setLcdAcc acc

/-- What the display's vectors list. -/
def lcdView (t : State) : LcdMode × Nat × Byte × Byte × Byte × Bool :=
  (t.lcdMode, t.lcdAcc, t.ly, t.memRead 0xFF41, t.memRead 0xFF0F, t.frameReady)

theorem test_V62_01 : lcdView ((lit .oamScan 0 0 2 0xFF).displayAdvance 76) = (.oamScan, 76, 0x00, 0x02, 0x00, false) := by
  decide +kernel
theorem test_V62_02 : lcdView ((lit .oamScan 76 0 2 0xFF).displayAdvance 4) = (.pixelTransfer, 0, 0x00, 0x03, 0x00, false) := by
  decide +kernel
theorem test_V62_06 : lcdView ((lit .pixelTransfer 160 0 0x0B 0xFF).displayAdvance 24) = (.hBlank, 12, 0x00, 0x08, 0x02, false) := by
  decide +kernel
theorem test_V62_08 : lcdView ((lit .hBlank 200 0x10 0x20 0xFF).displayAdvance 8) = (.oamScan, 4, 0x11, 0x22, 0x02, false) := by
  decide +kernel
theorem test_V62_09 : lcdView ((lit .hBlank 200 0x3F 0x40 0x40).displayAdvance 8) = (.oamScan, 4, 0x40, 0x46, 0x02, false) := by
  decide +kernel
theorem test_V62_12 : lcdView ((lit .hBlank 200 0x8F 0x00 0xFF).displayAdvance 8) = (.vBlank, 4, 0x90, 0x01, 0x01, true) := by
  decide +kernel
theorem test_V62_14 : lcdView ((lit .vBlank 452 0x90 0x01 0xFF).displayAdvance 8) = (.vBlank, 4, 0x91, 0x01, 0x00, false) := by
  decide +kernel
theorem test_V62_15 : lcdView ((lit .vBlank 452 0x99 0x21 0xFF).displayAdvance 8) = (.oamScan, 4, 0x00, 0x22, 0x02, false) := by
  decide +kernel
theorem test_V62_16 : lcdView ((lit .vBlank 452 0x99 0x41 0x00).displayAdvance 8) = (.oamScan, 4, 0x00, 0x46, 0x02, false) := by
  decide +kernel
theorem test_V62_18 : lcdView ((lit .oamScan 0 0 2 0xFF).displayAdvance 500) = (.pixelTransfer, 20, 0x00, 0x03, 0x00, false) := by
  decide +kernel

/-- The shades of the first sixteen columns of line 0. -/
def shades (s : State) : List Nat := (List.range 16).map fun x => (s.pixelShade (s.lineSprites 0) 0 x).toNat

/-- V63-01 to V63-04: palette and scroll. -/
theorem test_V63_01 : shades (base [] [(0x8010, 0x55), (0x8011, 0x33), (0x9800, 1), (0xFF40, 0x91), (0xFF47, 0xE4)]) =
    [0, 1, 2, 3, 0, 1, 2, 3, 0, 0, 0, 0, 0, 0, 0, 0] := by decide +kernel
theorem test_V63_02 : shades (base [] [(0x8010, 0x55), (0x8011, 0x33), (0x9800, 1), (0xFF40, 0x91), (0xFF47, 0x1B)]) =
    [3, 2, 1, 0, 3, 2, 1, 0, 3, 3, 3, 3, 3, 3, 3, 3] := by decide +kernel
theorem test_V63_04 : shades (base [] [(0x8010, 0x55), (0x8011, 0x33), (0x9800, 1), (0xFF40, 0x91), (0xFF43, 0xFD),
    (0xFF47, 0xE4)]) = [0, 0, 0, 0, 1, 2, 3, 0, 1, 2, 3, 0, 0, 0, 0, 0] := by decide +kernel
/-- V63-05: signed tile addresses. -/
theorem test_V63_05 : shades (base [] [(0x8801, 0xFF), (0x9010, 0xFF), (0x9800, 1), (0x9801, 0x80), (0xFF40, 0x81),
    (0xFF47, 0xE4)]) = [1, 1, 1, 1, 1, 1, 1, 1, 2, 2, 2, 2, 2, 2, 2, 2] := by decide +kernel
/-- V63-07: the window from column 8. -/
theorem test_V63_07 : shades (base [] [(0x8010, 0x55), (0x8011, 0x33), (0x8020, 0xFF), (0x8021, 0xFF), (0x8801, 0xFF),
    (0x9800, 1), (0x9801, 0x80), (0x9C00, 2), (0xFF40, 0xF1), (0xFF47, 0xE4), (0xFF4B, 0x0F)]) =
    [0, 1, 2, 3, 0, 1, 2, 3, 3, 3, 3, 3, 3, 3, 3, 3] := by decide +kernel
/-- The picture of V63-09 with the sprite entries given. -/
def sprites (oam : Memory) (lcdc : Byte) : State :=
  base [] ([(0x8010, 0x55), (0x8011, 0x33), (0x8020, 0xFF), (0x8021, 0xFF), (0x802E, 0x81), (0x802F, 0x81), (0x8030, 0xF0),
    (0x8031, 0x0F), (0x8801, 0xFF), (0x9800, 1), (0x9801, 0x80)] ++ oam ++ [(0xFF40, lcdc), (0xFF47, 0xE4), (0xFF48, 0xE4),
    (0xFF49, 0x1B)])
theorem test_V63_09 : shades (sprites [(0xFE00, 0x10), (0xFE01, 0x0C), (0xFE02, 3)] 0x93) =
    [0, 1, 2, 3, 1, 1, 1, 1, 2, 2, 2, 2, 2, 2, 2, 2] := by decide +kernel
theorem test_V63_10 : shades (sprites [(0xFE00, 0x10), (0xFE01, 0x0C), (0xFE02, 3), (0xFE03, 0x20)] 0x93) =
    [0, 1, 2, 3, 2, 2, 2, 2, 1, 1, 1, 1, 2, 2, 2, 2] := by decide +kernel
theorem test_V63_12 : shades (sprites [(0xFE00, 0x10), (0xFE01, 0x0C), (0xFE02, 3), (0xFE03, 0x80)] 0x93) =
    [0, 1, 2, 3, 1, 1, 2, 3, 2, 2, 2, 2, 2, 2, 2, 2] := by decide +kernel
theorem test_V63_15 : shades (sprites [(0xFE00, 0x10), (0xFE01, 0x0C), (0xFE02, 3), (0xFE04, 0x10), (0xFE05, 0x0E),
    (0xFE06, 2)] 0x93) = [0, 1, 2, 3, 1, 1, 3, 3, 3, 3, 3, 3, 3, 3, 2, 2] := by decide +kernel
theorem test_V63_16 : shades (sprites [(0xFE00, 0x08), (0xFE01, 0x0C), (0xFE02, 3), (0xFE03, 0x40)] 0x97) =
    [0, 1, 2, 3, 3, 1, 2, 3, 2, 2, 2, 3, 2, 2, 2, 2] := by decide +kernel

/-! ## The memory decoder -/

/-- The banked cartridge of V20-43 to V20-58: 128 KB, of which the first byte of each bank is listed, and the bytes past
its end read FF. -/
def banked : State := base [(0x0000, 0xB0), (0x0147, 0x01), (0x4000, 0xB1), (0x8000, 0xB2), (0xC000, 0xB3), (0x1C000, 0xB7)] []

theorem test_V20_44 : banked.memRead 0x4000 = 0xB1 := by decide +kernel
theorem test_V20_46 : (banked.memWrite 0x2000 0x02).memRead 0x4000 = 0xB2 := by decide +kernel
theorem test_V20_48 : (banked.memWrite 0x3FFF 0x07).memRead 0x4000 = 0xB7 := by decide +kernel
theorem test_V20_49 : (banked.memWrite 0x3FFF 0x07).memRead 0x0000 = 0xB0 := by decide +kernel
theorem test_V20_53 : (banked.memWrite 0x2000 0xE3).memRead 0x4000 = 0xB3 := by decide +kernel
theorem test_V20_54 : (banked.memWrite 0x2000 0x20).cartBank = 1 := by decide +kernel
theorem test_V20_55 : (banked.memWrite 0x1FFF 0x05).cartBank = 1 := by decide +kernel
theorem test_V20_56 : (banked.memWrite 0x4000 0x05).cartBank = 1 := by decide +kernel
theorem test_V20_58 : (banked.memWrite 0x2000 0x08).memRead 0x4000 = 0xFF := by decide +kernel
theorem test_V20_11 : ((base [(0x0147, 0x00)] []).memWrite 0x2000 0x02).cartBank = 1 := by decide +kernel
/-- V20-01 to V20-08: the overlay of `BOOT[i] = FF - i`, of which two bytes are listed. -/
def overlaid : State := (((base [(0x0000, 0x00), (0x0147, 0x00)] []).setBoot [(0x00, 0xFF), (0xFF, 0x00)]).setBootActive true)
theorem test_V20_01 : overlaid.memRead 0x0000 = 0xFF := by decide +kernel
theorem test_V20_05 : (overlaid.memWrite 0xFF50 0x00).memRead 0x0000 = 0xFF := by decide +kernel
theorem test_V20_07 : (overlaid.memWrite 0xFF50 0x01).memRead 0x0000 = 0x00 := by decide +kernel
theorem test_V20_09 : ((overlaid.memWrite 0xFF50 0x01).memWrite 0xFF50 0x00).bootActive = false := by decide +kernel
theorem test_V20_15 : ((base [] []).memWrite 0xC123 0x5A).memRead 0xE123 = 0x5A := by decide +kernel
theorem test_V20_17 : ((base [] []).memWrite 0xE456 0xA5).memRead 0xC456 = 0xA5 := by decide +kernel
theorem test_V20_20 : ((base [] []).memWrite 0xDDFF 0x11).memRead 0xFDFF = 0x11 := by decide +kernel
theorem test_V20_25 : ((base [] []).memWrite 0xFEA0 0x44).memRead 0xFEA0 = 0xFF := by decide +kernel
theorem test_V20_31 : ((base [] []).memWrite 0xFF44 0x99).memRead 0xFF44 = 0x00 := by decide +kernel
theorem test_V20_32 : ((base [] []).memWrite 0xFF41 0xFF).memRead 0xFF41 = 0xF9 := by decide +kernel
theorem test_V20_34 : ((base [] []).memWrite 0xFF10 0x80).memRead 0xFF10 = 0x80 := by decide +kernel
/-- V20-37, V20-42: the DMA copy, from working RAM and from the I/O page. -/
theorem test_V20_37 : ((base [] [(0xC101, 0x01), (0xC19F, 0x9F), (0xC1A0, 0xEE)]).memWrite 0xFF46 0xC1).raw =
    [(0xC101, 0x01), (0xC19F, 0x9F), (0xC1A0, 0xEE), (0xFE01, 0x01), (0xFE9F, 0x9F), (0xFF46, 0xC1)] := by decide +kernel
theorem test_V20_42 : ((base [] [(0xFF00, 0x30), (0xFF80, 0x55)]).memWrite 0xFF46 0xFF).raw =
    [(0xFE00, 0x30), (0xFE41, 0x01), (0xFE46, 0xFF), (0xFE80, 0x55), (0xFF00, 0x30), (0xFF46, 0xFF), (0xFF80, 0x55)] := by
  decide +kernel

/-! ## The host -/

theorem test_overlay_has_256_bytes : (SetupAction.loadBoot [0x00]).apply State.reset = none := by decide +kernel
theorem test_frame_is_taken_once : (HostAction.takeFrame.apply ((base [] []).setFrameReady true)).map State.frameReady =
    some false := by decide +kernel
theorem test_resume_leaves_stopped : (HostAction.resume.apply ((base [] []).setStopped true)).map State.stopped =
    some false := by decide +kernel
theorem test_preset_of_plain_memory : ((SetupAction.preset 0xC000 0x12).apply (base [] [])).map (fun t => t.memRead 0xE000) =
    some 0x12 := by decide +kernel
/-- IE is a plain region (R68). -/
theorem test_preset_of_ie : ((SetupAction.preset 0xFFFF 0x1F).apply (base [] [])).map (fun t => t.memRead 0xFFFF) =
    some 0x1F := by decide +kernel
theorem test_preset_refuses_io : (SetupAction.preset 0xFF40 0x12).apply (base [] []) = none := by decide +kernel
theorem test_image_is_indexed : (SetupAction.loadCartridge [0x11, 0xFF, 0x22]).apply State.reset =
    some (State.reset.setRom [(0, 0x11), (2, 0x22)]) := by decide +kernel
theorem test_shade_colours : ([0, 1, 2, 3] : List Shade).map (shadeRgb Params.standard.shadeRgb) =
    [⟨255, 255, 255⟩, ⟨170, 170, 170⟩, ⟨85, 85, 85⟩, ⟨0, 0, 0⟩] := by decide

/-- What `f` sees of the machine after the events of a session that begins from the reset state. -/
def inSession {α : Type} (es : List Event) (f : State → α) : Option α :=
  (runSession es ⟨State.reset, false⟩).map fun σ => f σ.machine
/-- R381, R382: images, reset, machine steps: `LD B,n` from 0100. -/
theorem test_session_runs : inSession [.setup (.loadCartridge (List.replicate 0x100 0x00 ++ [0x06, 0x07])), .reset .postboot,
    .machine] (fun t => (t.b, t.pc)) = some (0x07, 0x0102) := by decide +kernel
/-- R384: nothing is supplied or preset once the session runs; a host that would must first let it end. -/
theorem test_session_is_closed_to_the_loader : inSession [.reset .postboot, .machine, .setup (.preset 0xC000 0x12)] State.pc =
    none := by decide +kernel
theorem test_session_is_closed_to_the_cartridge : inSession [.reset .postboot, .setup (.loadCartridge [])] State.pc = none := by
  decide +kernel
theorem test_session_begins_with_reset : inSession [.setup (.preset 0xC000 0x12), .machine] State.pc = none := by decide +kernel
/-- R400: reset gives a preset byte its reset value. -/
theorem test_reset_follows_the_preset : inSession [.setup (.preset 0xC000 0x12), .reset .postboot] (fun t => t.memRead 0xC000) =
    some 0x00 := by decide +kernel
/-- R401: no overlay image, no profile `boot`. -/
theorem test_boot_profile_needs_an_overlay : inSession [.reset .boot] State.pc = none := by decide +kernel

/-! ## Other parameters (R8) -/

/-- A session's parameters with every one of them away from its default. -/
def altered : Params :=
  { optable :=
      { primary := [(0x00, ⟨.inc_A, 9, 0⟩), (0x20, ⟨.jr_NZ_e 0x00, 10, 6⟩)]
        extended := [(0x00, some ⟨.swap_A, 11, 0⟩), (0x11, none)]
        legal := by decide }
    undefinedOpcodes := [0x01]
    intDispatchCycles := 24
    haltTickCycles := 8
    intVector := ⟨0x1000, 0x1008, 0x1010, 0x1018, 0x1020⟩
    map :=
      { bounds :=
          { videoRam := ⟨0x8000, 0x8FFF⟩, unusable := ⟨0x9000, 0x907F⟩, spriteTable := ⟨0x9080, 0x911F⟩
            externalRam := ⟨0x9120, 0xBFFF⟩, workRam := ⟨0xC000, 0xDFFF⟩, highRam := ⟨0xFE00, 0xFEFF⟩, io := ⟨0xFF00, 0xFFFE⟩ }
        io := { IoAddresses.standard with joyp := 0xFF8F, stat := 0xFF60, iflag := 0xFFFE, lcdc := 0xFF41 }
        legal := by decide }
    initRam := [(0xC000, 0x11), (0xFF41, 0x33), (0xC000, 0x44), (0xFF00, 0x22)]
    lcdResetLy := 0x90
    shadeRgb := ⟨⟨1, 2, 3⟩, ⟨4, 5, 6⟩, ⟨7, 8, 9⟩, ⟨10, 11, 12⟩⟩ }

/-- The state of a session with these parameters, with the bytes at `PC`. -/
def under (b0 b1 : Byte) : State :=
  ((((State.initial altered .postboot).setRom [(0x0100, b0), (0x0101, b1), (0x0147, 0x00)])).setFlags ⟨false, false, false, false⟩)

theorem test_altered_operation : after (under 0x00 0x00) (fun t => (t.a, t.pc, t.cycles)) = some (0x02, 0x0101, 9) := by
  decide +kernel
/-- A taken branch costs the entry's extra cycles more, one not taken its base. -/
theorem test_altered_branch : after (under 0x20 0x05) (fun t => (t.pc, t.cycles)) = some (0x0107, 16) := by decide +kernel
theorem test_altered_branch_not_taken : after ((under 0x20 0x05).setFlags ⟨true, false, false, false⟩)
    (fun t => (t.pc, t.cycles)) = some (0x0102, 10) := by decide +kernel
theorem test_altered_extended : after (under 0xCB 0x00) (fun t => (t.a, t.pc, t.cycles)) = some (0x10, 0x0102, 11) := by
  decide +kernel
/-- R300: a hole of the extended page records both bytes; `PC` passes the prefix alone (log entry 19). -/
theorem test_altered_hole : after (under 0xCB 0x11) (fun t => (t.fault, t.pc, t.cycles)) =
    some (some ⟨0x0100, [0xCB, 0x11]⟩, 0x0101, 0) := by decide +kernel
theorem test_altered_undefined : after (under 0x01 0x00) State.fault = some (some ⟨0x0100, [0x01]⟩) := by decide +kernel
/-- The vectors, the dispatch cycles and IF where this map has it. -/
theorem test_altered_service : after ((((under 0x00 0x00).ioSet .IF 0x10).ioSet .IE 0x10).setIme true)
    (fun t => (t.pc, t.cycles, t.rawGet 0xFFFE)) = some (0x1020, 24, 0x00) := by decide +kernel
theorem test_altered_halt : after ((under 0x00 0x00).setHalted true) State.cycles = some 8 := by decide +kernel
/-- R58 with these parameters: STAT and LY where this map has them, `INIT_RAM` in RAM but in no named register. -/
theorem test_altered_reset : (State.initial altered .boot).raw =
    [(0xC000, 0x11), (0xFF00, 0x22), (0xFF41, 0x00), (0xFF44, 0x90), (0xFF60, 0x01)] := by decide +kernel
/-- R61, R66: the regions where this map has them. -/
theorem test_altered_unusable : (under 0x00 0x00).memRead 0x907F = 0xFF ∧ ((under 0x00 0x00).memWrite 0xFFFE 0x1F).ioGet .IF = 0x1F
    ∧ ((under 0x00 0x00).memWrite 0xFEA0 0x55).memRead 0xFEA0 = 0x55 := by decide +kernel
/-- R78: to the sprite table where this map has it, in ascending order: the last byte's source has been copied to. -/
theorem test_altered_dma :
    let t := (((under 0x00 0x00).rawSet 0x909F 0x55).memWrite 0xFF46 0x90)
    t.memRead 0x9080 = 0xFF ∧ t.memRead 0x911F = 0xFF ∧ t.memRead 0x9120 = 0x00 := by decide +kernel
/-- R364: the table's first entry. -/
theorem test_altered_sprite : ((((under 0x00 0x00).rawSet 0x9080 0x10).rawSet 0x9081 0x0C).spriteRow 0 0) =
    some ⟨0x0C, 0x00, 0x00, 0x00⟩ := by decide +kernel
theorem test_altered_ok : altered.ok = true ∧ Params.standard.ok = true := by decide +kernel

/-! ## States that meet the hypotheses of the statements

One theorem for each statement that has hypotheses, named after it; `_lo` and `_hi` are the ends of a range. -/

/-- A state with the three bytes at `PC`. -/
def atPc (b0 b1 b2 : Byte) : State := base [(0x0100, b0), (0x0101, b1), (0x0102, b2), (0x0147, 0x00)] []

theorem wit_DecodeOfEncodeReturnsTheInstruction :
    Instr.wellFormed (.ld_mnn_A 0xFFFF) = true ∧ decode (encode (.ld_mnn_A 0xFFFF) ++ [0x77]) = .ok (.ld_mnn_A 0xFFFF, [0x77]) :=
  ⟨by decide, by rfl⟩
theorem wit_InvariantHoldsAfterReset : altered.ok = true ∧ (State.initial altered .boot).Inv :=
  ⟨by decide +kernel, by unfold State.Inv; decide +kernel⟩
theorem wit_ResetGivesTheTableValues : altered.map.isInitRam 0xFF00 = true ∧ altered.map.isInitRam 0xFF41 = false
    ∧ AddressMap.standard.isInitRam 0x8000 = true ∧ AddressMap.standard.isInitRam 0xFFFE = true
    ∧ AddressMap.standard.isInitRam 0xFFFF = false ∧ AddressMap.standard.isInitRam 0xFF0F = false := by decide +kernel
theorem wit_InvariantKeptByEveryStep : (base [] []).Inv ∧ ∃ t, step (base [] []) = .next t :=
  ⟨by unfold State.Inv; decide +kernel, _, rfl⟩
theorem wit_InvariantKeptByEveryStep_lit : (lit .hBlank 203 0x8F 0x00 0xFF).Inv ∧ ∃ t, step (lit .hBlank 203 0x8F 0x00 0xFF) = .next t :=
  ⟨by unfold State.Inv; decide +kernel, _, rfl⟩
theorem wit_Fetches_ime_clear : Fetches (atPc 0xC3 0x50 0x01) := by unfold Fetches; decide +kernel
theorem wit_Fetches_ime_set : Fetches ((atPc 0xC3 0x50 0x01).setIme true) := by unfold Fetches; decide +kernel
theorem wit_StepRunsTheDecodedInstruction :
    let s := (atPc 0xC3 0x50 0x01).setIme true
    StandardTables s.params ∧ Fetches s ∧ decode [s.memRead s.pc, s.memRead (s.pc + 1), s.memRead (s.pc + 2)] = .ok (.jp_nn 0x0150, []) :=
  ⟨⟨rfl, rfl⟩, wit_Fetches_ime_set, rfl⟩
/-- The branch of a fatal exception. -/
theorem wit_StepRunsTheDecodedInstruction_fatal :
    let s := atPc 0xFD 0x50 0x01
    Fetches s ∧ decode [s.memRead s.pc, s.memRead (s.pc + 1), s.memRead (s.pc + 2)] = .ok (.undefined 0xFD, [0x50, 0x01])
      ∧ ∃ t, exec (.undefined 0xFD) (s.setPc (s.pc + 1)) = .next t ∧ t.fault ≠ none :=
  ⟨by unfold Fetches; decide +kernel, rfl, _, rfl, by decide +kernel⟩
/-- The first clause in a session with other tables, with a branch taken and one not taken. -/
theorem wit_StepRunsTheDecodedInstruction_altered :
    Fetches (under 0x20 0x05) ∧ fetched (under 0x20 0x05) = .jr_NZ_e 0x05 ∧ fetchedLength (under 0x20 0x05) = 2
      ∧ fetchedCost (under 0x20 0x05) = (10, 6)
      ∧ (∃ t, exec (fetched (under 0x20 0x05)) ((under 0x20 0x05).setPc 0x0102) = .next t
          ∧ t.fault = none ∧ t.cycles ≠ Instr.baseCycles (.jr_NZ_e 0x05))
      ∧ ∃ t, exec (.jr_NZ_e 0x05) (((under 0x20 0x05).setPc 0x0102).setFlags ⟨true, false, false, false⟩) = .next t
          ∧ t.cycles = Instr.baseCycles (.jr_NZ_e 0x05) :=
  ⟨by unfold Fetches; decide +kernel, by decide +kernel, by decide +kernel, by decide +kernel,
    ⟨_, rfl, by decide +kernel, by decide +kernel⟩, _, rfl, by decide +kernel⟩
theorem wit_StepRunsTheDecodedInstruction_tables :
    altered.optable.extended.lookup 0x00 = some (some ⟨.swap_A, 11, 0⟩) ∧ (0x20 : Byte) ≠ 0xCB ∧ (0x20 : Byte) ∉ altered.undefinedOpcodes
      ∧ altered.optable.primary.lookup 0x20 = some ⟨.jr_NZ_e 0x00, 10, 6⟩ ∧ (0x01 : Byte) ∈ altered.undefinedOpcodes := by
  decide +kernel
/-- Bytes that a table with entries does not list, next to ones that it does. -/
theorem wit_StepRunsTheDecodedInstruction_unlisted :
    altered.optable.extended.lookup 0x01 = none ∧ altered.optable.extended.lookup 0xFF = none ∧ (0x21 : Byte) ≠ 0xCB
      ∧ (0x21 : Byte) ∉ altered.undefinedOpcodes ∧ altered.optable.primary.lookup 0x21 = none
      ∧ (0xFF : Byte) ∉ altered.undefinedOpcodes ∧ altered.optable.primary.lookup 0xFF = none
      ∧ ¬ AtHole (under 0x20 0x05) ∧ ¬ AtHole (under 0xCB 0x00) := by unfold AtHole; decide +kernel
theorem wit_StepStopsOnlyWhenStuck :
    ((base [] []).fault = none ∧ (base [] []).stopped = false)
      ∧ ((base [] []).setFault (some ⟨0x0100, [0xD3]⟩)).fault = some ⟨0x0100, [0xD3]⟩
      ∧ (((base [] []).setStopped true).fault = none ∧ ((base [] []).setStopped true).stopped = true) := by decide +kernel
theorem wit_EveryInstructionCompletes : (∀ op, Instr.nop ≠ .undefined op) ∧ isOperation .nop = true :=
  ⟨fun _ h => Instr.noConfusion h, rfl⟩
theorem wit_UndefinedOpcodeIsFatal :
    Fetches (atPc 0xD3 0x00 0x00) ∧ (atPc 0xD3 0x00 0x00).memRead (atPc 0xD3 0x00 0x00).pc = 0xD3
      ∧ (0xD3 : Byte) ∈ (atPc 0xD3 0x00 0x00).params.undefinedOpcodes ∧ (0xD3 : Byte) ≠ 0xCB :=
  ⟨by unfold Fetches; decide +kernel, by decide +kernel, by decide +kernel, by decide⟩
/-- A hole of the extended page. -/
theorem wit_UndefinedOpcodeIsFatal_hole :
    let s := under 0xCB 0x11
    Fetches s ∧ AtHole s ∧ s.memRead s.pc = 0xCB ∧ s.memRead (s.pc + 1) = 0x11
      ∧ s.params.optable.extended.lookup 0x11 = some none ∧ Params.standard.optable = Optable.standard := by
  unfold Fetches AtHole; decide +kernel
theorem wit_ControlStateHasItsOwnInstructions :
    (∃ t, exec .nop (base [] []) = .next t) ∧ Instr.nop ≠ .ei ∧ Instr.nop ≠ .di ∧ Instr.nop ≠ .reti ∧ Instr.nop ≠ .halt
      ∧ ∀ p, Instr.nop ≠ .stop p :=
  ⟨⟨_, rfl⟩, by decide, by decide, by decide, by decide, fun p h => by cases h⟩

/-- Every source enabled, the requests as given, IME set. -/
def requested (f : Byte) : State := (base [] [(0xFF0F, f), (0xFFFF, 0x1F)]).setIme true
theorem wit_LowestRequestIsServiced_lo : (requested 0x1F).pendingSource = some .vBlank := by decide +kernel
theorem wit_LowestRequestIsServiced_hi : (requested 0x10).pendingSource = some .input := by decide +kernel
theorem wit_LowestRequestIsServiced_none : (requested 0xE0).pendingSource = none := by decide +kernel
theorem wit_ServiceEntersTheHandler_hi :
    let s := requested 0x10
    s.fault = none ∧ s.stopped = false ∧ s.ime = true ∧ (s.ioGet .IF).getLsbD IntSource.input.bit = true
      ∧ (s.ioGet .IE).getLsbD IntSource.input.bit = true
      ∧ ∀ k, k < IntSource.input.bit → ¬ ((s.ioGet .IF).getLsbD k = true ∧ (s.ioGet .IE).getLsbD k = true) := by
  decide +kernel
theorem wit_ServiceEntersTheHandler_lo :
    let s := requested 0x1F
    s.fault = none ∧ s.stopped = false ∧ s.ime = true ∧ (s.ioGet .IF).getLsbD IntSource.vBlank.bit = true
      ∧ (s.ioGet .IE).getLsbD IntSource.vBlank.bit = true
      ∧ ∀ k, k < IntSource.vBlank.bit → ¬ ((s.ioGet .IF).getLsbD k = true ∧ (s.ioGet .IE).getLsbD k = true) := by
  decide +kernel
theorem wit_HaltedStepTicksTheDevices :
    let s := ((base [] []).setHalted true).setIme true
    s.fault = none ∧ s.stopped = false ∧ s.halted = true ∧ (s.ime = false ∨ s.pendingSource = none) := by decide +kernel
theorem wit_HaltedStepTicksTheDevices_ime_clear :
    let s := (requested 0x01).setHalted true |>.setIme false
    s.fault = none ∧ s.stopped = false ∧ s.halted = true ∧ (s.ime = false ∨ s.pendingSource = none) := by decide +kernel
theorem wit_HaltWithoutMasterEnableNeverEnds :
    let s := (requested 0x1F).setHalted true |>.setIme false
    s.fault = none ∧ s.stopped = false ∧ s.halted = true ∧ s.ime = false := by decide +kernel
theorem wit_EnableTakesEffect_ei :
    Fetches (atPc 0xFB 0x00 0x00) ∧ (atPc 0xFB 0x00 0x00).ime = false ∧ (atPc 0xFB 0x00 0x00).imeDelay = 0
      ∧ fetched (atPc 0xFB 0x00 0x00) = .ei ∧ StandardTables (atPc 0xFB 0x00 0x00).params
      ∧ (atPc 0xFB 0x00 0x00).memRead (atPc 0xFB 0x00 0x00).pc = 0xFB :=
  ⟨by unfold Fetches; decide +kernel, by decide +kernel, by decide +kernel, by decide +kernel, ⟨rfl, rfl⟩, by decide +kernel⟩
theorem wit_EnableTakesEffect_next :
    let s := (atPc 0x00 0x00 0x00).setImeDelay 1
    Fetches s ∧ s.imeDelay = 1 ∧ fetched s ≠ .di ∧ ∀ op, fetched s ≠ .undefined op :=
  ⟨by unfold Fetches; decide +kernel, by decide +kernel, by decide +kernel, fun op h => by
    rw [show fetched ((atPc 0x00 0x00 0x00).setImeDelay 1) = .nop by decide +kernel] at h; cases h⟩
theorem wit_EnableTakesEffect_di :
    Fetches ((atPc 0xF3 0x00 0x00).setImeDelay 1) ∧ fetched ((atPc 0xF3 0x00 0x00).setImeDelay 1) = .di :=
  ⟨by unfold Fetches; decide +kernel, by decide +kernel⟩

theorem wit_EnableTakesEffect_bytes :
    StandardTables (atPc 0xF3 0x00 0x00).params ∧ (atPc 0xF3 0x00 0x00).memRead (atPc 0xF3 0x00 0x00).pc = 0xF3
      ∧ fetched (atPc 0xD3 0x00 0x00) = .undefined 0xD3 :=
  ⟨⟨rfl, rfl⟩, by decide +kernel, by decide +kernel⟩

/-- The default map. -/
abbrev plainMap : AddressMap := AddressMap.standard
theorem wit_PlainStoresReadBack : Plain plainMap 0x8000 ∧ Plain plainMap 0xFE9F ∧ Plain plainMap 0xFF80 ∧ Plain plainMap 0xFFFF := by
  unfold Plain; decide
theorem wit_PlainStoresReadBack_not_io : ¬ Plain plainMap 0x7FFF ∧ ¬ Plain plainMap 0xFEA0 ∧ ¬ Plain plainMap 0xFF7F := by
  unfold Plain; decide
/-- The first and the last byte that each clause of `Touches` names, and an address that none names. -/
theorem wit_Touches :
    Touches plainMap 0x8000 0x8000 ∧ Touches plainMap 0xE000 0xC000 ∧ Touches plainMap 0xFDFF 0xDDFF
    ∧ Touches plainMap 0xC000 0xE000 ∧ Touches plainMap 0xDDFF 0xFDFF ∧ Touches plainMap 0xFF03 0xFF04
    ∧ Touches plainMap 0xFF04 0xFF03 ∧ Touches plainMap 0xFF46 0xFE00 ∧ Touches plainMap 0xFF46 0xFE9F
    ∧ Touches plainMap 0xFF50 0x0000 ∧ Touches plainMap 0xFF50 0x00FF ∧ Touches plainMap 0x2000 0x4000
    ∧ Touches plainMap 0x3FFF 0x7FFF ∧ ¬ Touches plainMap 0x1FFF 0x4000 ∧ ¬ Touches plainMap 0xDE00 0xFE00
    ∧ ¬ Touches plainMap 0xFF50 0x0100 := by
  refine ⟨?_, ?_, ?_, ?_, ?_, ?_, ?_, ?_, ?_, ?_, ?_, ?_, ?_, ?_, ?_, ?_⟩ <;> (unfold Touches; decide)
theorem wit_EchoMirrorsWorkingRam : 0xE000 ≤ (0xE000 : Word).toNat ∧ (0xFDFF : Word).toNat ≤ 0xFDFF := by decide
theorem wit_EchoMirrorsWorkingRam_unmirrored : 0xDE00 ≤ (0xDE00 : Word).toNat ∧ (0xDFFF : Word).toNat ≤ 0xDFFF
    ∧ (0xFE00 : Word) ≠ 0xDE00 := by decide
theorem wit_UnusableRegionReadsOnes : State.reset.params.map.bounds.unusable.first ≤ (0xFEA0 : Word).toNat
    ∧ (0xFEFF : Word).toNat ≤ State.reset.params.map.bounds.unusable.last
    ∧ altered.map.bounds.unusable.first ≤ (0x9000 : Word).toNat ∧ (0x907F : Word).toNat ≤ altered.map.bounds.unusable.last := by
  decide +kernel
theorem wit_CartridgeWindowBanks_banked : banked.romByte 0x0147 ≠ 0 ∧ 0x2000 ≤ (0x2000 : Word).toNat
    ∧ (0x3FFF : Word).toNat ≤ 0x3FFF := by decide +kernel
theorem wit_CartridgeWindowBanks_plain : (base [(0x0147, 0x00)] []).romByte 0x0147 = 0 := by decide +kernel
theorem wit_CartridgeWindowBanks_overlay : 0x0100 ≤ (0x0100 : Word).toNat ∧ banked.bootActive = false
    ∧ 0x4000 ≤ (0x7FFF : Word).toNat := by decide +kernel
theorem wit_CartridgeWindowBanks_overlay_on : overlaid.bootActive = true ∧ (0x00FF : Word).toNat ≤ 0x00FF
    ∧ Sparse.find overlaid.boot 0x00FF = some 0x00 ∧ overlaid.memRead 0x00FF = 0x00 ∧ overlaid.memRead 0x0000 = 0xFF := by
  decide +kernel
theorem wit_IoWritesHaveTheirSideEffects : [(0xFF00 : Word), 0xFF7F].all (fun a => decide (
    State.reset.params.map.bounds.io.first ≤ a.toNat ∧ a.toNat ≤ State.reset.params.map.bounds.io.last
      ∧ a ∉ [IoReg.DIVLO, .DIV, .TAC, .STAT, .LY, .DMA, .BOOTOFF].map (regAt State.reset))) = true := by decide +kernel
theorem wit_IoWritesHaveTheirSideEffects_at : regAt State.reset .DIV = 0xFF04 ∧ regAt (under 0x00 0x00) .STAT = 0xFF60 := by
  decide +kernel
theorem wit_DmaCopiesThePage : 0 < 160 ∧ 159 < 160 ∧ ¬ Touches State.reset.params.map (regAt State.reset .DMA) 0xFEA0 := by
  unfold Touches; decide +kernel
/-- The default table lies above every page it does not begin; a table that straddles pages does not. -/
theorem wit_DmaCopiesThePage_pages :
    let first := State.reset.params.map.bounds.spriteTable.first
    0xFD * 256 + 160 ≤ first ∧ first ≤ 0xFE * 256 ∧ 0x90 * 256 < altered.map.bounds.spriteTable.first
      ∧ altered.map.bounds.spriteTable.first ≤ 0x90 * 256 + 0x80 ∧ ¬ altered.map.bounds.spriteTable.first ≤ 0x90 * 256 + 0x7F
      ∧ altered.map.bounds.spriteTable.first ≤ 0x91 * 256 := by decide +kernel
theorem wit_CanonicalMemoriesAreDetermined : Memory.wf [(0xC000, 0x01), (0xFF41, 0x00)] = true := by decide
theorem wit_NotCanonical : Memory.wf [(0xC000, 0x00)] = false ∧ Memory.wf [(0xC001, 0x01), (0xC000, 0x01)] = false := by decide

/-- The word 1234 on the stack. -/
def stacked : State := (base [] [(0xC100, 0x34), (0xC101, 0x12)]).setSp 0xC100
theorem wit_WordAtSp : WordAtSp stacked 0x1234 := by unfold WordAtSp; decide +kernel
/-- `SP` at the top of the address space: the word wraps to 0000. -/
theorem wit_WordAtSp_wraps : WordAtSp ((base [(0x0000, 0x31)] [(0xFFFF, 0x1F)]).setSp 0xFFFF) 0x311F := by
  unfold WordAtSp; decide +kernel
theorem wit_PopAfterPushRestores :
    let s := (base [] []).setSp 0x8002
    Plain s.params.map (s.sp - 1) ∧ Plain s.params.map (s.sp - 2)
      ∧ ∃ t u, exec (rowPush .HL) s = .next t ∧ exec (rowPop .BC) t = .next u :=
  ⟨by unfold Plain; decide +kernel, by unfold Plain; decide +kernel, _, _, rfl, rfl⟩
theorem wit_ReturnUndoesTheCall :
    let s := (base [] []).setSp 0x0000
    Plain s.params.map (s.sp - 1) ∧ Plain s.params.map (s.sp - 2) ∧ ∃ t u, exec (.call_nn 0x0200) s = .next t ∧ exec .ret t = .next u :=
  ⟨by unfold Plain; decide +kernel, by unfold Plain; decide +kernel, _, _, rfl, rfl⟩
theorem wit_AccumulatorAndCarryFlips : ∃ t u, exec .scf (base [] []) = .next t ∧ exec .ccf t = .next u := ⟨_, _, rfl, rfl⟩
theorem wit_DecimalAdjustCorrectsBcd :
    let s := (base [] []).setA 0x99
    s.a = bcd (99 / 10) (99 % 10) ∧ (∃ t u, exec (.add_A_n (bcd 9 9)) s = .next t ∧ exec .daa t = .next u)
      ∧ ∃ t u, exec (.sub_n (bcd 0 0)) s = .next t ∧ exec .daa t = .next u :=
  ⟨by decide +kernel, ⟨_, _, rfl, rfl⟩, ⟨_, _, rfl, rfl⟩⟩
theorem wit_Conditions : CondHolds .NZ (base [] []).flags ∧ ¬ CondHolds .Z (base [] []).flags
    ∧ CondHolds .NC (base [] []).flags ∧ ¬ CondHolds .C (base [] []).flags :=
  by unfold CondHolds; decide +kernel
theorem wit_TimerTick_pending : (timed 0 5 0xFF 0xAB false true).pendingOverflow = true := by decide +kernel
theorem wit_TimerTick_falls :
    let s := timed 0x000F 5 0xFF 0xAB true false
    (s.memRead 0xFF07).getLsbD 2 = true ∧ s.lastSample = true ∧ (counter s.timerTick).testBit 3 = false
      ∧ s.timerTick.pendingOverflow = true := by decide +kernel
theorem wit_OnePeriodCountsOnce :
    let s := timed 0xFFFF 5 0xFE 0 true false
    TapIs s 3 ∧ s.lastSample = (counter s).testBit 3 ∧ s.pendingOverflow = false ∧ s.ioGet .TIMA ≠ 0xFF :=
  ⟨by unfold TapIs; decide +kernel, by decide +kernel, by decide +kernel, by decide +kernel⟩
/-- TIMA = FF: the edge in the last tick of the period, and before it. -/
theorem wit_OnePeriodCountsOnce_wraps_last :
    let s := timed 0x0010 5 0xFF 0xAB false false
    TapIs s 3 ∧ s.lastSample = (counter s).testBit 3 ∧ s.pendingOverflow = false ∧ s.ioGet .TIMA = 0xFF
      ∧ counter s % 2 ^ (3 + 1) = 0 ∧ (s.timerAdvance 16).ioGet .TIMA = 0x00 ∧ (s.timerAdvance 16).pendingOverflow = true :=
  ⟨by unfold TapIs; decide +kernel, by decide +kernel, by decide +kernel, by decide +kernel, by decide +kernel,
    by decide +kernel, by decide +kernel⟩
theorem wit_OnePeriodCountsOnce_wraps_before :
    let s := timed 0x001F 5 0xFF 0xAB true false
    TapIs s 3 ∧ s.lastSample = (counter s).testBit 3 ∧ s.pendingOverflow = false ∧ s.ioGet .TIMA = 0xFF
      ∧ counter s % 2 ^ (3 + 1) ≠ 0 ∧ (s.timerAdvance 16).ioGet .TIMA = 0xAB ∧ (s.timerAdvance 16).ioGet .IF = 0x04 :=
  ⟨by unfold TapIs; decide +kernel, by decide +kernel, by decide +kernel, by decide +kernel, by decide +kernel,
    by decide +kernel, by decide +kernel⟩
theorem wit_DisplayBudgets :
    (lit .oamScan 79 0 2 0xFF).lcdAcc + 0 < 80 ∧ 80 ≤ (lit .oamScan 79 0 2 0xFF).lcdAcc + 1
      ∧ (lit .oamScan 79 0 2 0xFF).lcdMode = .oamScan ∧ (lit .pixelTransfer 171 0 3 0xFF).lcdMode = .pixelTransfer
      ∧ 172 ≤ (lit .pixelTransfer 171 0 3 0xFF).lcdAcc + 1 := by decide +kernel
theorem wit_LeavingHBlankEndsTheLine : [(0 : Byte), 142, 143, 144, 255].all (fun ly => decide (
    (lit .hBlank 203 ly 0 0xFF).lcdMode = .hBlank ∧ 204 ≤ (lit .hBlank 203 ly 0 0xFF).lcdAcc + 1
      ∧ (lit .hBlank 203 ly 0 0xFF).ioGet .LY = ly)) = true := by decide +kernel
/-- R354, R356: the entry to OamScan makes its request, and so does an equal LYC; with neither enabled none is made. -/
theorem test_entry_to_oam_scan_requests : ((lit .hBlank 203 4 0x20 0xFF).displayAdvance 1).ioGet .IF = 0x02
    ∧ ((lit .hBlank 203 4 0x40 5).displayAdvance 1).ioGet .IF = 0x02 ∧ ((lit .hBlank 203 4 0x40 5).displayAdvance 1).ioGet .STAT = 0x46
    ∧ ((lit .hBlank 203 4 0x40 4).displayAdvance 1).ioGet .IF = 0x00 := by decide +kernel
theorem wit_VBlankLinesCountAndWrap : [(144 : Byte), 152, 153, 255].all (fun ly => decide (
    (lit .vBlank 455 ly 1 0xFF).lcdMode = .vBlank ∧ 456 ≤ (lit .vBlank 455 ly 1 0xFF).lcdAcc + 1)) = true
    ∧ (152 + 1 : Byte).toNat ≤ 153 ∧ 153 < (153 + 1 : Byte).toNat := by decide +kernel
/-- R355: after line 153 the compare is made with line 0. -/
theorem test_wrap_compares_line_zero : ((lit .vBlank 455 153 0x41 0).displayAdvance 1).ioGet .IF = 0x02
    ∧ ((lit .vBlank 455 153 0x41 0).displayAdvance 1).ioGet .STAT = 0x46 := by decide +kernel
/-- The background branch: a state, a pixel and the numbers that meet every premise. -/
theorem wit_BackgroundPixel :
    let s := base [] [(0x8801, 0xFF), (0x9010, 0xFF), (0x9800, 1), (0x9801, 0x80), (0xFF40, 0x81), (0xFF47, 0xE4)]
    (s.ioGet .LCDC).getLsbD 1 = false ∧ (s.ioGet .LCDC).getLsbD 5 = false ∧ (s.ioGet .LCDC).getLsbD 0 = true
      ∧ (15 = ((s.ioGet .SCX).toNat + 15) % 256) ∧ s.rawGet (0x9800 + 15 / 8) = 0x80 ∧ s.rawGet (0x8000 + 0x80 * 16 + 1) = 0xFF
      ∧ (s.pixelShade [] 0 15).toNat = 2 := by decide +kernel
/-- The window branch: its first column is that of the pixel, WX - 7 columns in. -/
theorem wit_BackgroundPixel_window :
    let s := base [] [(0x8020, 0xFF), (0x8021, 0xFF), (0x9C00, 2), (0xFF40, 0xF1), (0xFF47, 0xE4), (0xFF4B, 0x0F)]
    (s.ioGet .LCDC).getLsbD 5 = true ∧ (s.ioGet .WY).toNat ≤ 0 ∧ (s.ioGet .WX).toNat ≤ 8 + 7 ∧ 0 + (s.ioGet .WX).toNat = 8 + 7
      ∧ ¬ (s.ioGet .WX).toNat ≤ 7 + 7 ∧ (s.pixelShade [] 0 8).toNat = 3 ∧ (s.pixelShade [] 0 7).toNat = 0 := by decide +kernel
theorem wit_BackgroundPixel_off : ((base [] []).ioGet .LCDC).getLsbD 0 = false := by decide +kernel
theorem wit_SpritePixelsCompose :
    (SpriteRow.index ⟨0x0C, 0x00, 0xF0, 0x0F⟩ 4 = 1 ∧ SpriteRow.index ⟨0x0C, 0x00, 0xF0, 0x0F⟩ 11 = 2)
      ∧ SpriteRow.index ⟨0x0C, 0x20, 0xF0, 0x0F⟩ 4 = 2
      ∧ SpriteRow.index ⟨0x0C, 0x00, 0xF0, 0x0F⟩ 12 = 0 ∧ SpriteRow.index ⟨0x0C, 0x00, 0xF0, 0x0F⟩ 3 = 0 := by decide
/-- Entries of the table: on the screen, flipped, 16 lines high (the even tile's row counted from the other end), and off
the screen at the ends of each range. -/
theorem wit_SpritePixelsCompose_rows :
    ((sprites [(0xFE00, 0x10), (0xFE01, 0x0C), (0xFE02, 3)] 0x93).spriteRow 0 0 = some ⟨0x0C, 0x00, 0xF0, 0x0F⟩)
      ∧ ((sprites [(0xFE00, 0x10), (0xFE01, 0x0C), (0xFE02, 2), (0xFE03, 0x40)] 0x93).spriteRow 0 0 = some ⟨0x0C, 0x40, 0x81, 0x81⟩)
      ∧ ((sprites [(0xFE00, 0x08), (0xFE01, 0x0C), (0xFE02, 3), (0xFE03, 0x40)] 0x97).spriteRow 0 0 = some ⟨0x0C, 0x40, 0x81, 0x81⟩)
      ∧ ((sprites [(0xFE00, 0x08), (0xFE01, 0x0C), (0xFE02, 3)] 0x93).spriteRow 0 0 = none)
      ∧ ((sprites [(0xFE00, 0x10), (0xFE01, 0xA8), (0xFE02, 3)] 0x93).spriteRow 0 0 = none)
      ∧ ((sprites [(0xFE00, 0xA0), (0xFE01, 0x0C), (0xFE02, 3)] 0x93).spriteRow 144 0 = none)
      ∧ ((sprites [(0xFE00, 0x10), (0xFE01, 0x0C), (0xFE02, 3)] 0x93).lineSprites 0).length = 1
      ∧ (sprites [(0xFE00, 0x10), (0xFE01, 0x0C), (0xFE02, 3)] 0x91).lineSprites 0 = [] := by decide +kernel
theorem wit_HostActionsAreLocal :
    ((base [] []).setFrameReady true).frameReady = true ∧ ((base [] []).setStopped true).stopped = true
      ∧ (base [] []).frameReady = false ∧ (base [] []).stopped = false := by decide +kernel
theorem wit_HostActionsAreLocal_setup : (List.replicate 256 (0x00 : Byte)).length = 256 ∧ ([] : List Byte).length ≠ 256
    ∧ State.reset.boot = [] ∧ overlaid.boot ≠ [] := by decide +kernel
/-- The ends of the plain regions, the default map's and another's: a preset is accepted inside and refused outside. -/
theorem wit_HostActionsAreLocal_preset :
    (InPlainRegion plainMap 0x8000 ∧ InPlainRegion plainMap 0xDFFF ∧ InPlainRegion plainMap 0xFE00
        ∧ InPlainRegion plainMap 0xFE9F ∧ InPlainRegion plainMap 0xFF80 ∧ InPlainRegion plainMap 0xFFFF)
      ∧ (¬ InPlainRegion plainMap 0x7FFF ∧ ¬ InPlainRegion plainMap 0xE000 ∧ ¬ InPlainRegion plainMap 0xFDFF
        ∧ ¬ InPlainRegion plainMap 0xFEA0 ∧ ¬ InPlainRegion plainMap 0xFEFF ∧ ¬ InPlainRegion plainMap 0xFF00 ∧ ¬ InPlainRegion plainMap 0xFF7F)
      ∧ (InPlainRegion altered.map 0x8FFF ∧ InPlainRegion altered.map 0x9080 ∧ InPlainRegion altered.map 0xFEFF)
      ∧ (¬ InPlainRegion altered.map 0x9000 ∧ ¬ InPlainRegion altered.map 0x907F ∧ ¬ InPlainRegion altered.map 0xFF00 ∧ ¬ InPlainRegion altered.map 0xFFFE) := by
  unfold InPlainRegion Plain; and_intros <;> decide
/-- The session's answers at those ends. -/
theorem test_preset_at_the_ends :
    ([(0x8000 : Word), 0xDFFF, 0xFE00, 0xFE9F, 0xFF80, 0xFFFF].all fun a =>
        ((Session.next ⟨State.reset, false⟩ (.setup (.preset a 0x12))).map fun σ => σ.machine.memRead a) == some 0x12) = true
      ∧ ([(0x7FFF : Word), 0xE000, 0xFDFF, 0xFEA0, 0xFEFF, 0xFF00, 0xFF7F].all fun a =>
        (Session.next ⟨State.reset, false⟩ (.setup (.preset a 0x12))).isNone) = true := by decide +kernel
/-- After the fatal exception the host may still act (log entry 18), and no machine step is taken. -/
theorem test_host_acts_after_a_fault :
    (runSession [.machine, .host (.writeJoyp 0x0F)] ⟨atPc 0xD3 0x00 0x00, true⟩).isSome = true
      ∧ (runSession [.machine, .machine] ⟨atPc 0xD3 0x00 0x00, true⟩).isNone = true := by decide +kernel
theorem wit_HostActionsAreLocal_session : Event.close ∉ [Event.machine, .host (.writeJoyp 0x0F)]
    ∧ (runSession [.machine, .host (.writeJoyp 0x0F)] ⟨atPc 0x00 0x00 0x00, true⟩).isSome = true := by decide +kernel


end Tests
end Sys2Proof
end

section
/-! The frame of a mapped write, stated once for every address; and with it the statements about plain storage, the
unusable region, the DMA trigger and the stack. -/

namespace Sys2Proof
namespace Machine

open Stated

/-! ### Addresses -/

/-- The place of an address in the backing array is the address itself, or its byte of working RAM. -/
theorem homeOf_cases (x : Nat) :
    (0xE000 ≤ x ∧ x ≤ 0xFDFF ∧ homeOf x = x - 0x2000) ∨ (¬ (0xE000 ≤ x ∧ x ≤ 0xFDFF) ∧ homeOf x = x) := by
  unfold homeOf
  split
  · next h => rw [isEcho_iff] at h; exact .inl ⟨h.1, h.2, rfl⟩
  · next h => rw [isEcho_iff] at h; exact .inr ⟨h, rfl⟩

/-- The place of a named register is no other address's. -/
theorem homeOf_eq_addr {m : AddressMap} {x : Nat} {r : IoReg} (h : homeOf x = m.addr r) : x = m.addr r := by
  have k := map_addr_range m r
  rcases homeOf_cases x with ⟨-, h1, e⟩ | ⟨-, e⟩ <;> omega

/-- A place in the sprite table is no other address's. -/
theorem homeOf_sprite {m : AddressMap} {x : Nat} (h : m.bounds.spriteTable.contains (homeOf x) = true) : homeOf x = x := by
  have k := map_sprite m h
  rcases homeOf_cases x with ⟨h1, h2, e⟩ | ⟨-, e⟩ <;> omega

/-- An address of the sprite table is its own place. -/
theorem homeOf_of_sprite {m : AddressMap} {x : Nat} (h : m.bounds.spriteTable.contains x = true) : homeOf x = x := by
  have k := map_sprite m h
  rcases homeOf_cases x with ⟨h1, h2, -⟩ | ⟨-, e⟩
  · omega
  · exact e

theorem regAt_toNat (s : State) (r : IoReg) : (regAt s r).toNat = s.params.map.addr r := by
  have k := map_addr_range s.params.map r
  unfold regAt
  rw [BitVec.toNat_ofNat, Nat.mod_eq_of_lt (by omega)]

/-! ### The frame of a mapped write (R64) -/

section Frame
variable {s t u : State}

/-- Two addresses above the cartridge window with one place in the backing array: the write at one touches the other. -/
theorem touches_of_homeOf_eq {m : AddressMap} {a y : Word} (ha : 0x8000 ≤ a.toNat) (hy : 0x8000 ≤ y.toNat)
    (h : homeOf y.toNat = homeOf a.toNat) : Touches m a y := by
  unfold Touches
  rcases homeOf_cases a.toNat with ⟨a1, a2, ea⟩ | ⟨a1, ea⟩ <;> rcases homeOf_cases y.toNat with ⟨y1, y2, ey⟩ | ⟨y1, ey⟩
  · exact .inl ⟨ha, BitVec.eq_of_toNat_eq (by omega)⟩
  · exact .inr (.inl ⟨a1, a2, by omega⟩)
  · exact .inr (.inr (.inl ⟨by omega, by omega, by omega⟩))
  · exact .inl ⟨ha, BitVec.eq_of_toNat_eq (by omega)⟩

/-- The two bytes of the counter are touched together. -/
theorem touches_counter {m : AddressMap} {a y : Word} (ha : a.toNat = m.addr .DIVLO ∨ a.toNat = m.addr .DIV)
    (hy : y.toNat = m.addr .DIVLO ∨ y.toNat = m.addr .DIV) : Touches m a y := by
  have same : a.toNat = y.toNat → Touches m a y := fun e => by
    have k1 := map_addr_range m .DIVLO
    have k2 := map_addr_range m .DIV
    exact .inl ⟨by omega, BitVec.eq_of_toNat_eq e.symm⟩
  rcases ha with ha | ha <;> rcases hy with hy | hy
  · exact same (ha.trans hy.symm)
  · exact .inr (.inr (.inr (.inl ⟨ha, hy⟩)))
  · exact .inr (.inr (.inr (.inr (.inl ⟨ha, hy⟩))))
  · exact same (ha.trans hy.symm)

theorem touches_sprite {m : AddressMap} {a y : Word} (ha : a.toNat = m.addr .DMA)
    (hy : m.bounds.spriteTable.contains y.toNat = true) : Touches m a y :=
  .inr (.inr (.inr (.inr (.inr (.inl ⟨ha, (contains_iff _ _).1 hy⟩)))))

/-- A byte that a mapped write does not touch reads as before. -/
theorem memRead_memWrite_other (s : State) (a y : Word) (v : Byte) (h : ¬ Touches s.params.map a y) :
    (s.memWrite a v).memRead y = s.memRead y := by
  unfold State.memRead
  by_cases hy : y.toNat < 0x8000
  · refine readAt_low s _ _ hy (fun hb => memWrite_bootActive s a v fun e => h ?_)
      (fun hc => memWrite_cartBank_other s a v fun e => h ?_) (memWrite_rom s a v) (memWrite_boot s a v)
    · exact .inr (.inr (.inr (.inr (.inr (.inr (.inl ⟨e, hb⟩))))))
    · exact .inr (.inr (.inr (.inr (.inr (.inr (.inr ⟨e.1, e.2, hc, by omega⟩))))))
  · have hy : 0x8000 ≤ y.toNat := by omega
    rw [readAt_high _ _ hy, readAt_high _ _ hy, memWrite_params, memWrite_rawGet]
    · exact fun ha e => h (touches_of_homeOf_eq ha hy e)
    · exact fun e => h (touches_counter e.1 (e.2.imp homeOf_eq_addr homeOf_eq_addr))
    · exact fun e => h (touches_sprite e.1 (homeOf_sprite e.2 ▸ e.2))

theorem displayKept_memWrite (s : State) (a : Word) (v : Byte) : DisplayKept s (s.memWrite a v) := by
  simp [DisplayKept]

/-- The whole frame of a mapped write, at its own address. -/
theorem storesOnlyAt_memWrite (s : State) (a : Word) (v : Byte) : StoresOnlyAt [a] s (s.memWrite a v) := by
  refine ⟨fun y h => memRead_memWrite_other s a y v (h a List.mem_cons_self),
    fun h => memWrite_bootActive s a v (h a List.mem_cons_self),
    fun h => memWrite_cartBank_other s a v (h a List.mem_cons_self), fun h => ?_, displayKept_memWrite s a v⟩
  obtain ⟨h1, h2, h3⟩ := h a List.mem_cons_self
  exact memWrite_lastSample s a v h1 h2 h3

theorem displayKept_trans (h1 : DisplayKept s t) (h2 : DisplayKept t u) : DisplayKept s u := by
  obtain ⟨a1, a2, a3, a4, a5, a6, a7, a8, a9⟩ := h1
  obtain ⟨b1, b2, b3, b4, b5, b6, b7, b8, b9⟩ := h2
  exact ⟨b1.trans a1, b2.trans a2, b3.trans a3, b4.trans a4, b5.trans a5, b6.trans a6, b7.trans a7, b8.trans a8,
    b9.trans a9⟩

/-- Stores one after another are stores at all their addresses. -/
theorem storesOnlyAt_append {as bs : List Word} (h1 : StoresOnlyAt as s t) (h2 : StoresOnlyAt bs t u) :
    StoresOnlyAt (as ++ bs) s u := by
  obtain ⟨m1, b1, c1, l1, d1⟩ := h1
  obtain ⟨m2, b2, c2, l2, d2⟩ := h2
  simp only [d1.1] at m2 b2 c2 l2
  simp only [StoresOnlyAt, List.forall_mem_append]
  exact ⟨fun y h => (m2 y h.2).trans (m1 y h.1), fun h => (b2 h.2).trans (b1 h.1), fun h => (c2 h.2).trans (c1 h.1),
    fun h => (l2 h.2).trans (l1 h.1), displayKept_trans d1 d2⟩

end Frame

/-! ### Plain storage and the unusable region -/

/-- A byte stored outside the I/O and unusable regions, above the cartridge window, reads back. -/
theorem memRead_memWrite_plain (s : State) (a : Word) (v : Byte) (h : 0x8000 ≤ a.toNat)
    (h1 : s.params.map.isUnusable a.toNat = false) (h2 : s.params.map.isIo a.toNat = false) :
    (s.memWrite a v).memRead a = v := by
  rw [memWrite_plain s a v h h1 h2]
  exact (memRead_plain (s.rawSet _ v) a h h1).trans (rawGet_rawSet_same s _ v)

theorem plain_iff (m : AddressMap) (a : Word) :
    Plain m a ↔ 0x8000 ≤ a.toNat ∧ m.isUnusable a.toNat = false ∧ m.isIo a.toNat = false := by
  rw [← Bool.not_eq_true, ← Bool.not_eq_true, isUnusable_iff, isIo_iff]
  rfl

/-- Settles O18: a plain write is one raw write, which the read sees; the bounds are the default's. -/
theorem plainStoresReadBack : Obligations.PlainStoresReadBack := by
  refine ⟨fun s a v h => ?_, rfl, fun a => ?_⟩
  · obtain ⟨h0, h1, h2⟩ := (plain_iff _ a).1 h
    exact memRead_memWrite_plain s a v h0 h1 h2
  · have := a.isLt
    simp only [InPlainRegion, Plain, AddressMap.standard, RegionBounds.standard]
    omega

/-- Settles O21, by the region's own branch of the mapped read and write. -/
theorem unusableRegionReadsOnes : Obligations.UnusableRegionReadsOnes := by
  refine ⟨fun s a v h1 h2 => ?_, rfl⟩
  have hu : s.params.map.isUnusable a.toNat = true := (isUnusable_iff _ _).2 ⟨h1, h2⟩
  have hr : s.memRead a = 0xFF := by
    unfold State.memRead
    rw [readAt_high s _ (map_unusable _ hu).1, if_pos hu]
  exact ⟨hr, writeAt_unusable s _ v hu, fun b1 b2 => hr ▸ rfl⟩

/-! ### The DMA copy (R78) -/

/-- The state after the first `n` bytes of the DMA copy of page `v`. -/
def State.dmaPart (s : State) (v : Byte) (n : Nat) : State :=
  (List.range n).foldl (fun t i => t.rawSet (t.params.map.spriteFirst + i) (t.readAt (v.toNat * 256 + i))) s

section Dma
variable (s : State) (v : Byte)

theorem dmaPart_all : s.dmaPart v 160 = s.dmaCopy v := rfl

@[simp] theorem dmaPart_zero : s.dmaPart v 0 = s := rfl

theorem dmaPart_succ (n : Nat) : s.dmaPart v (n + 1) =
    (s.dmaPart v n).rawSet ((s.dmaPart v n).params.map.spriteFirst + n) ((s.dmaPart v n).readAt (v.toNat * 256 + n)) := by
  unfold State.dmaPart
  rw [List.range_succ, List.foldl_append]
  rfl

/-- The copy writes the backing array and nothing else. -/
theorem dmaPart_eq_setRaw (n : Nat) : s.dmaPart v n = s.setRaw (s.dmaPart v n).raw := by
  induction n with
  | zero => rfl
  | succ n ih =>
    rw [dmaPart_succ]
    generalize (s.dmaPart v n).readAt _ = w
    rw [ih]
    rfl

@[simp] theorem dmaPart_params (n : Nat) : (s.dmaPart v n).params = s.params := by rw [dmaPart_eq_setRaw]; rfl

/-- A byte of the table keeps what it is given. -/
theorem dmaPart_rawGet (n x : Nat) : (s.dmaPart v n).rawGet x =
    if s.params.map.spriteFirst ≤ x ∧ x < s.params.map.spriteFirst + n then
      (s.dmaPart v (x - s.params.map.spriteFirst)).readAt (v.toNat * 256 + (x - s.params.map.spriteFirst))
    else s.rawGet x := by
  induction n with
  | zero => rw [if_neg (by omega), dmaPart_zero]
  | succ n ih =>
    rw [dmaPart_succ, rawGet_rawSet, dmaPart_params]
    split
    · next e =>
      subst e
      rw [if_pos (by omega), Nat.add_sub_cancel_left]
    · next e =>
      rw [ih]
      split
      · rw [if_pos (by omega)]
      · rw [if_neg (by omega)]

/-- What the copy reads at an address outside the part of the table it has written is what stood there. -/
theorem dmaPart_readAt_unwritten {n x : Nat} (hn : n ≤ 160)
    (h : ¬ (s.params.map.spriteFirst ≤ x ∧ x < s.params.map.spriteFirst + n)) :
    (s.dmaPart v n).readAt x = s.readAt x := by
  by_cases hx : x < 0x8000
  · rw [dmaPart_eq_setRaw]
    exact readAt_low s _ x hx (fun _ => rfl) (fun _ => rfl) rfl rfl
  · have unwritten : ¬ (s.params.map.spriteFirst ≤ homeOf x ∧ homeOf x < s.params.map.spriteFirst + n) := fun e => by
      obtain ⟨j, hj⟩ := Nat.exists_eq_add_of_le e.1
      have hs := spriteFirst_add s.params.map (i := j) (by omega)
      rw [← hj] at hs
      exact h (homeOf_sprite hs ▸ e)
    rw [readAt_high _ _ (by omega), readAt_high _ _ (by omega), dmaPart_params, dmaPart_rawGet, if_neg unwritten]

/-- A byte of the sprite table reads as its byte of the backing array. -/
theorem readAt_sprite {i : Nat} (hi : i < 160) :
    s.readAt (s.params.map.spriteFirst + i) = s.rawGet (s.params.map.spriteFirst + i) := by
  have hc := spriteFirst_add s.params.map hi
  obtain ⟨h1, -, -, -, h2, -⟩ := map_sprite _ hc
  rw [readAt_high _ _ h1, if_neg (by rw [h2]; exact Bool.false_ne_true), homeOf_of_sprite hc]

/-- Byte `i` of the table after the copy: the page's byte as it reads at that point. The copy ascends, so that has been
copied to already exactly where the page begins below the table and the byte lies in it. -/
theorem dmaCopy_readAt_sprite {i : Nat} (hi : i < 160) :
    (s.dmaCopy v).readAt (s.params.map.spriteFirst + i) =
      if v.toNat * 256 < s.params.map.spriteFirst ∧ s.params.map.spriteFirst ≤ v.toNat * 256 + i then
        (s.dmaCopy v).readAt (v.toNat * 256 + i)
      else s.readAt (v.toNat * 256 + i) := by
  have hb : (s.dmaCopy v).readAt (s.params.map.spriteFirst + i) = (s.dmaPart v i).readAt (v.toNat * 256 + i) := by
    have hr := readAt_sprite (s.dmaCopy v) hi
    rw [dmaCopy_params] at hr
    rw [hr, ← dmaPart_all, dmaPart_rawGet, if_pos (by omega), Nat.add_sub_cancel_left]
  rw [hb]
  split
  · next h =>
    obtain ⟨j, hj⟩ := Nat.exists_eq_add_of_le h.2
    have hji : j < i := by omega
    rw [hj]
    have r1 := readAt_sprite (s.dmaPart v i) (i := j) (by omega)
    have r2 := readAt_sprite (s.dmaCopy v) (i := j) (by omega)
    rw [dmaPart_params] at r1
    rw [dmaCopy_params] at r2
    rw [r1, r2, ← dmaPart_all, dmaPart_rawGet, dmaPart_rawGet, if_pos (by omega), if_pos (by omega)]
  · next h => exact dmaPart_readAt_unwritten s v (by omega) (by omega)

/-- A write to the DMA trigger stores the byte there and copies the page. -/
theorem memWrite_DMA : s.memWrite (regAt s .DMA) v = (s.ioSet .DMA v).dmaCopy v := by
  have ha := regAt_toNat s .DMA
  rw [memWrite_io_eq s _ v (ha ▸ map_addr_io _ .DMA (by decide)), ha]
  unfold State.ioWrite
  simp [State.ioSet]

end Dma

/-- Settles O24, by induction on the bytes copied so far; the frame is that of every mapped write. -/
theorem dmaCopiesThePage : Obligations.DmaCopiesThePage := by
  refine ⟨fun s v => ?_, rfl⟩
  intro t first page src
  have at_page : ∀ (u : State) (i : Nat), i < 160 → src u i = u.readAt (page + i) := fun u i hi => by
    have := v.isLt
    show u.readAt (BitVec.ofNat 16 _).toNat = _
    rw [BitVec.toNat_ofNat, Nat.mod_eq_of_lt (by omega)]
  have copied : ∀ i, i < 160 → t.memRead (BitVec.ofNat 16 (first + i)) =
      if page < first ∧ first ≤ page + i then src t i else src (s.ioSet .DMA v) i := fun i hi => by
    obtain ⟨-, hlt, -⟩ := map_sprite _ (spriteFirst_add s.params.map hi)
    have ha : (BitVec.ofNat 16 (first + i)).toNat = first + i := by
      rw [BitVec.toNat_ofNat]
      exact Nat.mod_eq_of_lt (Nat.lt_trans hlt (by decide))
    rw [at_page t i hi, at_page _ i hi, State.memRead, ha]
    show (s.memWrite _ v).readAt _ = if _ then (s.memWrite _ v).readAt _ else _
    rw [memWrite_DMA]
    exact dmaCopy_readAt_sprite (s.ioSet .DMA v) v hi
  refine ⟨copied, fun h i hi => ?_, ?_, memWrite_cycles s _ v, fun y hy => memRead_memWrite_other s _ y v hy⟩
  · rw [copied i hi, if_neg (by omega)]
  · show (s.memWrite _ v).ioGet .DMA = v
    rw [memWrite_DMA, dmaCopy_ioGet, ioGet_ioSet_same]

/-! ### The stack (R160 to R168) -/

theorem hiByte_eq (v : Word) : hiByte v = BitVec.ofNat 8 (v.toNat / 256) := by
  have := v.isLt
  apply BitVec.eq_of_toNat_eq
  rw [hiByte_toNat, BitVec.toNat_ofNat]
  omega

theorem loByte_eq (v : Word) : loByte v = BitVec.ofNat 8 v.toNat := by
  apply BitVec.eq_of_toNat_eq
  rw [loByte_toNat, BitVec.toNat_ofNat]

/-- A push stores the word's two bytes below `SP`, and nothing else. -/
theorem pushesWord_push16 (s : State) (v : Word) : PushesWord v s (s.push16 v) := by
  unfold PushesWord
  rw [push16_writes, ← hiByte_eq, ← loByte_eq]
  exact ⟨⟨fun _ => rfl, fun _ => rfl, rfl, rfl, rfl⟩,
    storesOnlyAt_append (storesOnlyAt_memWrite s (s.sp - 1) _) (storesOnlyAt_memWrite _ (s.sp - 2) _), rfl⟩

/-- What a push of `v` that reports 16 cycles leaves behind. -/
theorem completes_push (i : Instr) (s : State) (v : Word) (e : exec i s = .next ((s.push16 v).charge 16)) :
    Completes i s fun t =>
      PushesWord v s t ∧ RegsKept [] s t ∧ ControlKept s t ∧ t.flags = s.flags ∧ t.pc = s.pc ∧ t.cycles = 16 := by
  refine ⟨_, e, pushesWord_push16 s v, fun r _ => ?_, ?_, ?_, ?_, rfl⟩
  · exact getReg8_congr (push16_a s v) (push16_b s v) (push16_c s v) (push16_d s v) (push16_e s v) (push16_h s v)
      (push16_l s v) r
  · simp [ControlKept]
  · simp
  · simp

/-- The packed status byte, bit by bit (R25). -/
theorem pack_bits (f : Flags) : f.pack.getLsbD 7 = f.z ∧ f.pack.getLsbD 6 = f.n ∧ f.pack.getLsbD 5 = f.hf
    ∧ f.pack.getLsbD 4 = f.cf :=
  ⟨congrArg Flags.z (unpack_pack f), congrArg Flags.n (unpack_pack f), congrArg Flags.hf (unpack_pack f),
    congrArg Flags.cf (unpack_pack f)⟩

/-- Settles O32: both forms of PUSH are one push and 16 cycles. -/
theorem pushStoresTheWord : Obligations.PushStoresTheWord := by
  intro s Pushes
  obtain ⟨hz, hn, hh, hc⟩ := pack_bits s.flags
  exact ⟨fun p => completes_push _ s _ (exec_rowPush p s),
    s.flags.pack, pack_low s.flags, hz, hn, hh, hc, completes_push _ s _ rfl⟩

theorem wordAtSp_iff (s : State) (v : Word) : WordAtSp s v ↔ v = s.stackTop := by
  rw [BitVec.toNat_eq, State.stackTop, joinBytes_toNat]
  rfl

/-- Where the machine around the CPU is the same, nothing has been stored. -/
theorem nothingStored_of_same {s t : State} (e : SameMachine s t) : NothingStored s t := by
  obtain ⟨hraw, hba, hcb, hrom, hboot, hls, hpo, hmode, hacc, hback, hframe, hready, hparams⟩ := e
  exact ⟨fun a => readAt_congr s t hraw hba hcb hrom hboot hparams a.toNat, rawGet_congr s t hraw, hba, hcb, hls, hparams,
    hrom, hboot, hpo, hmode, hacc, hback, hframe, hready⟩

@[simp] theorem setPair_params (s : State) (p : Pair) (v : Word) : (s.setPair p v).params = s.params := by
  cases p <;> rfl

theorem quiet_popPair (s : State) (p : Pair) : Quiet (pairRegs p) s (s.popPair p) := by
  refine ⟨fun r hr => getReg8_setPair_other s.popped p r _ hr, ?_, nothingStored_of_same ?_⟩
  · simp [ControlKept, State.popPair, State.popped]
  · simp [SameMachine, State.popPair, State.popped]

theorem quiet_popAf (s : State) : Quiet [.A] s s.popAf := by
  refine ⟨fun r hr => ?_, ⟨rfl, rfl, rfl, rfl, rfl⟩, nothingStored_of_same ?_⟩
  · cases r with
    | A => exact absurd List.mem_cons_self hr
    | B | C | D | E | H | L => rfl
  · exact ⟨rfl, rfl, rfl, rfl, rfl, rfl, rfl, rfl, rfl, rfl, rfl, rfl, rfl⟩

/-- POP of a pair: the word at `SP`, and what is kept. -/
theorem completes_pop (s : State) (p : Pair) : Completes (rowPop p) s fun t =>
    t.getPair p = s.stackTop ∧ t.flags = s.flags ∧ t.sp = s.sp + 2 ∧ Quiet (pairRegs p) s t ∧ t.pc = s.pc
      ∧ t.cycles = 12 := by
  refine ⟨_, exec_rowPop p s, getPair_setPair_same s.popped p _, ?_, ?_, quiet_popPair s p, ?_, rfl⟩
  · exact setPair_flags s.popped p _
  · exact setPair_sp s.popped p _
  · exact setPair_pc s.popped p _

theorem loByte_getLsbD (v : Word) {k : Nat} (h : k < 8) : (loByte v).getLsbD k = v.getLsbD k := by
  unfold loByte
  rw [BitVec.getLsbD_extractLsb', Nat.zero_add]
  simp [h]

/-- The flags of the low byte of a word: its bits 7 to 4 (R25, R168). -/
theorem unpack_loByte (v : Word) :
    Flags.unpack (loByte v) = ⟨v.getLsbD 7, v.getLsbD 6, v.getLsbD 5, v.getLsbD 4⟩ := by
  unfold Flags.unpack bitAt
  rw [loByte_getLsbD v (k := 7) (by decide), loByte_getLsbD v (k := 6) (by decide), loByte_getLsbD v (k := 5) (by decide),
    loByte_getLsbD v (k := 4) (by decide)]

/-- Settles O33: the word is the model's `stackTop`, and a pop writes registers and `SP` alone. -/
theorem popReadsTheWord : Obligations.PopReadsTheWord := by
  intro s v hv Rest
  obtain rfl := (wordAtSp_iff s v).1 hv
  refine ⟨completes_pop s .BC, completes_pop s .DE, completes_pop s .HL,
    s.popAf, rfl, hiByte_toNat _, unpack_loByte _, rfl, quiet_popAf s, rfl, rfl⟩

end Machine
end Sys2Proof
end

section
/-! The step, case by case (R320 to R322), and the statements about it: what is fetched, the fatal exception, the
halted tick. -/

namespace Sys2Proof
namespace Machine

open Stated

/-! ### What a step does -/

section Step
variable {s t : State}

/-- From a faulted state no step is taken. -/
theorem step_of_fault {u : UnimplementedOpcode} (h : s.fault = some u) :
    step s = .fault (.unimplementedOpcode u.pc0 u.bytes) := by
  unfold step State.machineStep
  rw [h]

/-- From a running state the step is the CPU's, and then the devices'. -/
theorem step_of_cpuStep (hf : s.fault = none) (hs : s.stopped = false) (h : s.cpuStep = .next t) :
    step s = .next t.advanceDevices := by
  unfold step State.machineStep
  rw [hf, hs, h]
  rfl

/-- Nothing is serviced while the master enable is clear or no request is pending. -/
theorem no_service (h : s.ime = false ∨ s.pendingSource = none) :
    (if s.ime then s.pendingSource else none) = none := by
  rcases h with h | h
  · rw [h, if_neg Bool.false_ne_true]
  · rw [h, ite_self]

/-- A halted CPU that services nothing ticks. -/
theorem cpuStep_halted (h : s.ime = false ∨ s.pendingSource = none) (hh : s.halted = true) :
    s.cpuStep = .next s.haltTick := by
  unfold State.cpuStep
  rw [no_service h, hh]
  rfl

/-- From a state that fetches, the CPU's step is one instruction. -/
theorem cpuStep_fetches (h : Fetches s) : s.cpuStep = s.executeOne := by
  obtain ⟨-, -, hh, hi⟩ := h
  unfold State.cpuStep
  rw [no_service hi, hh]
  rfl

theorem advanceDevices_running (h : s.fault = none) :
    s.advanceDevices = (s.displayAdvance s.cycles).timerAdvance s.cycles := by
  unfold State.advanceDevices
  rw [h]
  rfl

theorem advanceDevices_faulted (h : s.fault ≠ none) : s.advanceDevices = s := by
  unfold State.advanceDevices
  rw [if_pos (Option.isSome_iff_ne_none.2 h)]

@[simp] theorem endInstruction_fault (s : State) : s.endInstruction.fault = s.fault := by
  unfold State.endInstruction
  split <;> rfl

@[simp] theorem endInstruction_cycles (s : State) : s.endInstruction.cycles = s.cycles := by
  unfold State.endInstruction
  split <;> rfl

theorem finish_running (cost : Nat × Nat) (i : Instr) (h : t.fault = none) :
    t.finish cost i = (t.setCycles (reportedCycles cost i t.cycles)).endInstruction := by
  unfold State.finish
  rw [h]
  rfl

theorem finish_faulted (cost : Nat × Nat) (i : Instr) (h : t.fault ≠ none) : t.finish cost i = t := by
  unfold State.finish
  rw [if_pos (Option.isSome_iff_ne_none.2 h)]

/-! ### What is fetched -/

theorem fetchByte_zero (s : State) : s.fetchByte 0 = s.memRead s.pc := by simp [State.fetchByte]

theorem instrAtPc_eq (s : State) : s.instrAtPc = fetched s := by
  unfold State.instrAtPc fetched
  rw [fetchByte_zero]
  rfl

theorem lengthAtPc_eq (s : State) : s.lengthAtPc = fetchedLength s := by
  unfold State.lengthAtPc fetchedLength
  rw [fetchByte_zero]
  rfl

theorem costAtPc_eq (s : State) : s.costAtPc = fetchedCost s := by
  unfold State.costAtPc fetchedCost
  rw [fetchByte_zero]
  rfl

theorem isHole_atPc (s : State) : s.params.isHole (s.fetchByte 0) (s.fetchByte 1) = true ↔ AtHole s := by
  rw [isHole_iff, fetchByte_zero]
  rfl

/-- The step executes the instruction that the tables select at `PC`, finishes it, and advances the devices. -/
theorem step_fetched (hf : Fetches s) (hole : ¬ AtHole s)
    (e : exec (fetched s) (s.setPc (s.pc + BitVec.ofNat 16 (fetchedLength s))) = .next t) :
    step s = .next (t.finish (fetchedCost s) (fetched s)).advanceDevices := by
  refine step_of_cpuStep hf.1 hf.2.1 ?_
  rw [← instrAtPc_eq, ← lengthAtPc_eq] at e
  rw [cpuStep_fetches hf, ← costAtPc_eq, ← instrAtPc_eq]
  exact executeOne_instr s t (Bool.eq_false_iff.2 fun h => hole ((isHole_atPc s).1 h)) e

/-- After an instruction that does not fault, its count is reported and the devices advance by it. -/
theorem step_fetched_running (hf : Fetches s) (hole : ¬ AtHole s)
    (e : exec (fetched s) (s.setPc (s.pc + BitVec.ofNat 16 (fetchedLength s))) = .next t) (ht : t.fault = none) {n : Nat}
    (hn : n = reportedCycles (fetchedCost s) (fetched s) t.cycles) :
    step s = .next (((t.setCycles n).endInstruction.displayAdvance n).timerAdvance n) := by
  rw [step_fetched hf hole e, finish_running _ _ ht, ← hn, advanceDevices_running (by simpa using ht),
    endInstruction_cycles, State.setCycles_cycles]

/-- After the fatal exception the step ends at once. -/
theorem step_fetched_faulted (hf : Fetches s) (hole : ¬ AtHole s)
    (e : exec (fetched s) (s.setPc (s.pc + BitVec.ofNat 16 (fetchedLength s))) = .next t) (ht : t.fault ≠ none) :
    step s = .next t := by
  rw [step_fetched hf hole e, finish_faulted _ _ ht, advanceDevices_faulted ht]

/-- At a hole of the extended page the step is the fatal exception. -/
theorem step_hole (hf : Fetches s) (hole : AtHole s) :
    step s = .next ((s.setPc (s.pc + 1)).setFault (some ⟨s.pc, [0xCB, s.memRead (s.pc + 1)]⟩)) := by
  have e := executeOne_hole s ((isHole_atPc s).2 hole)
  rw [raiseHole_eq, fetchByte_zero, hole.1, ← cpuStep_fetches hf] at e
  rw [step_of_cpuStep hf.1 hf.2.1 e, advanceDevices_faulted (by simp)]
  rfl

end Step

/-! ### What the tables select -/

section Tables
variable {P : Params} {b0 : Byte} (b1 b2 : Byte)

theorem instrOf_undefined (h : b0 ≠ 0xCB) (hu : b0 ∈ P.undefinedOpcodes) : P.instrOf b0 b1 b2 = .undefined b0 := by
  unfold Params.instrOf
  rw [if_neg h, if_pos (List.contains_iff_mem.2 hu)]

theorem lengthOf_primary (h : b0 ≠ 0xCB) : P.lengthOf b0 b1 b2 = 1 + (P.instrOf b0 b1 b2).operandBytes := if_neg h

/-- The primary page itself has no row for the eleven bytes that are `UNDEFINED_OPCODES` by default. -/
theorem decodePrimary_undefined (h : b0 ∈ Config.undefinedOpcodes) : decodePrimary b0 b1 b2 = .undefined b0 := by
  simp only [Config.undefinedOpcodes, List.mem_cons, List.not_mem_nil, or_false] at h
  rcases h with rfl | rfl | rfl | rfl | rfl | rfl | rfl | rfl | rfl | rfl | rfl <;> rfl

theorem decodeBytes_primary (h : b0 ≠ 0xCB) : decodeBytes b0 b1 b2 = decodePrimary b0 b1 b2 := by
  unfold decodeBytes
  rw [if_neg h]
  split
  · next hu => exact (decodePrimary_undefined b1 b2 (List.contains_iff_mem.1 hu)).symm
  · rfl

/-- An instruction of the primary page is one opcode byte and its operand bytes. -/
theorem length_decodeBytes (h : b0 ≠ 0xCB) :
    (decodeBytes b0 b1 b2).length = 1 + (decodeBytes b0 b1 b2).operandBytes := by
  rw [← lengthOf_standard Params.standard rfl rfl, lengthOf_primary b1 b2 h, instrOf_standard _ rfl rfl]

/-- What a listed entry of the primary page selects. -/
theorem instrOf_primary_listed {d : Descriptor} (h : b0 ≠ 0xCB) (hu : b0 ∉ P.undefinedOpcodes)
    (hd : P.optable.primary.lookup b0 = some d) : P.instrOf b0 b1 b2 = d.operation.withOperands b1 b2 := by
  unfold Params.instrOf
  rw [if_neg h, if_neg (mt List.contains_iff_mem.1 hu), hd]

theorem instrOf_primary_unlisted (h : b0 ≠ 0xCB) (hu : b0 ∉ P.undefinedOpcodes)
    (hd : P.optable.primary.lookup b0 = none) : P.instrOf b0 b1 b2 = decodeBytes b0 b1 b2 := by
  unfold Params.instrOf
  rw [if_neg h, if_neg (mt List.contains_iff_mem.1 hu), hd, decodeBytes_primary b1 b2 h]

theorem costOf_primary_listed {d : Descriptor} (h : b0 ≠ 0xCB) (hd : P.optable.primary.lookup b0 = some d) :
    P.costOf b0 b1 b2 = (d.baseCycles, d.extraCycles) := by
  unfold Params.costOf
  rw [if_neg h, hd]

theorem costOf_primary_unlisted (h : b0 ≠ 0xCB) (hd : P.optable.primary.lookup b0 = none) :
    P.costOf b0 b1 b2 = ((P.instrOf b0 b1 b2).baseCycles, (P.instrOf b0 b1 b2).extraCycles) := by
  unfold Params.costOf
  rw [if_neg h, hd]

theorem instrOf_extended_listed {d : Descriptor} (hd : P.optable.extended.lookup b1 = some (some d)) :
    P.instrOf 0xCB b1 b2 = d.operation := by
  unfold Params.instrOf
  rw [if_pos rfl, hd]

theorem instrOf_extended_unlisted (hd : P.optable.extended.lookup b1 = none) :
    P.instrOf 0xCB b1 b2 = decodeBytes 0xCB b1 b2 := by
  unfold Params.instrOf decodeBytes
  rw [if_pos rfl, if_pos rfl, hd]

theorem costOf_extended_listed {d : Descriptor} (hd : P.optable.extended.lookup b1 = some (some d)) :
    P.costOf 0xCB b1 b2 = (d.baseCycles, d.extraCycles) := by
  unfold Params.costOf
  rw [if_pos rfl, hd]
  rfl

theorem costOf_extended_unlisted (hd : P.optable.extended.lookup b1 = none) :
    P.costOf 0xCB b1 b2 = ((P.instrOf 0xCB b1 b2).baseCycles, (P.instrOf 0xCB b1 b2).extraCycles) := by
  unfold Params.costOf
  rw [if_pos rfl, hd]
  rfl

/-- The decoder never yields the row of 0xCB alone: every row of the extended page has two bytes, and every row of the
primary page one opcode byte, where `opcodeBytes` counts two for a first byte 0xCB (R295). -/
theorem decodeBytes_ne_prefixCB (b0 : Byte) : decodeBytes b0 b1 b2 ≠ .prefixCB := by
  by_cases h : b0 = 0xCB
  · intro e
    have hl := length_decodeExtended b1
    rw [← show decodeBytes b0 b1 b2 = decodeExtended b1 from if_pos h, e] at hl
    exact absurd hl (by decide)
  · intro e
    have ho := opcodeBytes_decodePrimary b0 b1 b2 h
    rw [← decodeBytes_primary b1 b2 h, e] at ho
    exact absurd ho (by decide)

end Tables

/-- The rows that are no operation: that of 0xCB alone and the undefined opcodes. -/
theorem not_isOperation {i : Instr} (h : isOperation i = false) : i = .prefixCB ∨ ∃ op, i = .undefined op := by
  unfold isOperation at h
  split at h
  · exact .inr ⟨_, rfl⟩
  · exact .inl rfl
  · cases h

/-- A decoded instruction that does not fault reports its row's cost (R117). -/
theorem exec_cost_running {i : Instr} {s t : State} (hi : i ≠ .prefixCB) (e : exec i s = .next t) (ht : t.fault = none) :
    t.cycles = i.baseCycles ∨ t.cycles = i.baseCycles + i.extraCycles := by
  cases ho : isOperation i
  · obtain rfl | ⟨op, rfl⟩ := not_isOperation ho
    · exact absurd rfl hi
    · cases e
      cases ht
  · exact exec_cost i s t ho e

/-! ### The statements -/

/-- Settles O15: nothing is serviced, so that the CPU's step is the tick. -/
theorem haltedStepTicksTheDevices : Obligations.HaltedStepTicksTheDevices := by
  refine ⟨fun s hf hs hh hi => ?_, rfl⟩
  have hd := advanceDevices_running (s := s.haltTick) hf
  exact (step_of_cpuStep hf hs (cpuStep_halted hi hh)).trans (congrArg _ hd)

theorem exec_undefined (op : Byte) (s : State) : exec (.undefined op) s = .next (s.setFault (some ⟨s.pc - 1, [op]⟩)) := rfl

/-- An undefined opcode takes one byte. -/
theorem operandBytes_undefined {op : Byte} (h : op ≠ 0xCB) : (Instr.undefined op).operandBytes = 0 := by
  unfold Instr.operandBytes
  rw [opcodeBytes_undefined op h]
  rfl

/-- The step at an undefined opcode is the fatal exception. -/
theorem step_undefined {s : State} (hf : Fetches s) (hu : s.memRead s.pc ∈ s.params.undefinedOpcodes)
    (h : s.memRead s.pc ≠ 0xCB) :
    step s = .next ((s.setPc (s.pc + 1)).setFault (some ⟨s.pc, [s.memRead s.pc]⟩)) := by
  have hi : fetched s = .undefined (s.memRead s.pc) := instrOf_undefined _ _ h hu
  have hl : fetchedLength s = 1 := by
    unfold fetchedLength
    rw [lengthOf_primary _ _ h, instrOf_undefined _ _ h hu, operandBytes_undefined h]
  have e := exec_undefined (s.memRead s.pc) (s.setPc (s.pc + 1))
  rw [State.setPc_pc, BitVec.add_sub_cancel] at e
  exact step_fetched_faulted hf (fun hole => h hole.1) (by rw [hi, hl]; exact e) (by simp)

/-- Settles O11: at an undefined opcode and at a hole the step is the fatal exception, and no step follows it. -/
theorem undefinedOpcodeIsFatal : Obligations.UndefinedOpcodeIsFatal := by
  refine ⟨exec_undefined, ?_, ?_, ⟨rfl, rfl⟩, ?_⟩
  · rintro s op hf rfl hu h
    exact ⟨_, step_undefined hf hu h, rfl, step_of_fault (u := ⟨_, _⟩) rfl⟩
  · rintro s b1 hf h0 rfl hole
    exact ⟨_, step_hole hf ⟨h0, hole⟩, rfl, step_of_fault (u := ⟨_, _⟩) rfl⟩
  · rintro s h ⟨-, hole⟩
    rw [h] at hole
    cases hole

/-- The count that the two conditions of the statement determine is the one the model reports. -/
theorem eq_reportedCycles {cost : Nat × Nat} {i : Instr} {c n : Nat} (h1 : c = i.baseCycles → n = cost.1)
    (h2 : c ≠ i.baseCycles → n = cost.1 + cost.2) : n = reportedCycles cost i c := by
  unfold reportedCycles
  split
  · next h => exact h1 h
  · next h => exact h2 h

/-- The three bytes at `PC` decode to the instruction the decoder reads from them. -/
theorem decode_three {b0 b1 b2 : Byte} {i : Instr} {rest : List Byte} (h : decode [b0, b1, b2] = .ok (i, rest)) :
    i = decodeBytes b0 b1 b2 := by
  unfold decode at h
  simp only [reduceCtorEq, and_false, if_false] at h
  split at h
  · cases h
  · cases h
    rfl

/-- With the standard tables what the step fetches is the decoded instruction, of its own length and cost. -/
theorem fetched_standard {s : State} (hs : StandardTables s.params) {i : Instr}
    (hi : i = decodeBytes (s.memRead s.pc) (s.memRead (s.pc + 1)) (s.memRead (s.pc + 2))) :
    fetched s = i ∧ fetchedLength s = i.length ∧ fetchedCost s = (i.baseCycles, i.extraCycles) := by
  subst hi
  exact ⟨instrOf_standard _ hs.1 hs.2 _ _ _, lengthOf_standard _ hs.1 hs.2 _ _ _, costOf_standard _ hs.1 hs.2 _ _ _⟩

theorem not_atHole_standard {s : State} (hs : StandardTables s.params) : ¬ AtHole s := by
  rw [← isHole_atPc, isHole_standard _ hs.1]
  exact Bool.false_ne_true

/-- With the standard tables the step runs the decoded instruction and reports the count of its meaning. -/
theorem step_decoded {s t : State} (hf : Fetches s) (hs : StandardTables s.params) {i : Instr}
    (hi : i = decodeBytes (s.memRead s.pc) (s.memRead (s.pc + 1)) (s.memRead (s.pc + 2)))
    (e : exec i (s.setPc (s.pc + BitVec.ofNat 16 i.length)) = .next t) :
    (t.fault = none → step s = .next ((t.endInstruction.displayAdvance t.cycles).timerAdvance t.cycles))
      ∧ (t.fault ≠ none → step s = .next t) := by
  obtain ⟨hi', hl, hc⟩ := fetched_standard hs hi
  have hole := not_atHole_standard hs
  have e' : exec (fetched s) (s.setPc (s.pc + BitVec.ofNat 16 (fetchedLength s))) = .next t := by rwa [hi', hl]
  refine ⟨fun ht => ?_, step_fetched_faulted hf hole e'⟩
  have hn : t.cycles = reportedCycles (fetchedCost s) (fetched s) t.cycles := by
    rw [hi', hc, reportedCycles_own i t.cycles (exec_cost_running (hi ▸ decodeBytes_ne_prefixCB _ _ _) e ht)]
  rw [step_fetched_running hf hole e' ht hn, State.setCycles_self]

/-- Settles O8: the step is fetch, `exec` and finish, and each table lookup is a branch of what the tables select. -/
theorem stepRunsTheDecodedInstruction : Obligations.StepRunsTheDecodedInstruction := by
  refine ⟨fun s hf hole => ?_, fun s i rest hf hs hd => ?_, fun P b0 b1 b2 => ⟨?_, ?_, ?_, ?_, ?_, ?_, ?_⟩⟩
  · have e := exec_form (fetched s) (s.setPc (s.pc + BitVec.ofNat 16 (fetchedLength s)))
    exact ⟨_, e, fun ht n h1 h2 => step_fetched_running hf hole e ht (eq_reportedCycles h1 h2),
      step_fetched_faulted hf hole e⟩
  · have e := exec_form i (s.setPc (s.pc + BitVec.ofNat 16 i.length))
    exact ⟨_, e, step_decoded hf hs (decode_three hd) e⟩
  · rintro d rfl hd
    exact ⟨instrOf_extended_listed b1 b2 hd, rfl, costOf_extended_listed b1 b2 hd⟩
  · rintro rfl hd
    have hi := instrOf_extended_unlisted b1 b2 hd
    exact ⟨hi, rfl, hi ▸ costOf_extended_unlisted b1 b2 hd⟩
  · intro d h hu hd
    exact ⟨instrOf_primary_listed b1 b2 h hu hd, costOf_primary_listed b1 b2 h hd⟩
  · intro h hu hd
    have hi := instrOf_primary_unlisted b1 b2 h hu hd
    exact ⟨hi, by rw [lengthOf_primary b1 b2 h, hi, length_decodeBytes b1 b2 h], hi ▸ costOf_primary_unlisted b1 b2 h hd⟩
  · exact instrOf_undefined b1 b2
  · exact lengthOf_primary b1 b2
  · rintro ⟨h1, h2⟩
    exact ⟨instrOf_standard P h1 h2 b0 b1 b2, lengthOf_standard P h1 h2 b0 b1 b2, costOf_standard P h1 h2 b0 b1 b2⟩

end Machine
end Sys2Proof
end

section
/-! The state after reset (R58, R400), byte by byte, and the invariant there. -/

namespace Sys2Proof
namespace Machine

open Stated

/-! ### The backing array at reset -/

section Reset
variable (P : Params) (p : Profile)

/-- What a byte of the backing array holds after reset: LY and STAT have their own values, every other byte RAM's. -/
theorem initial_rawGet (x : Nat) : (State.initial P p).rawGet x =
    if x = P.map.addr .LY then P.lcdResetLy
    else if x = P.map.addr .STAT then 0x01
    else Sparse.read Config.resetByte P.resetRam x := by
  show Sparse.read Config.resetByte P.resetRaw x = _
  unfold Params.resetRaw
  rw [Sparse.read_write, Sparse.read_write]

/-- Nothing that is read lies in the unusable region, where alone the default STAT byte is left standing. -/
theorem resetRam_read_usable {x : Nat} (h : P.map.isUnusable x = false) :
    Sparse.read Config.resetByte P.resetRam x =
      if P.map.isInitRam x = true then (Sparse.find P.initRam x).getD 0x00 else 0x00 := by
  have hx : ¬ (x = 0xFF41 ∧ P.map.isUnusable 0xFF41 = true) := fun ⟨e, hu⟩ => by
    rw [e, hu] at h
    cases h
  rw [resetRam_read, if_neg hx]
  cases Sparse.find P.initRam x <;> rfl

/-- The named registers after reset. -/
theorem initial_ioGet_eq (r : IoReg) : (State.initial P p).ioGet r =
    if r = .LY then P.lcdResetLy
    else if r = .STAT then 0x01
    else Sparse.read Config.resetByte P.resetRam (P.map.addr r) := by
  refine (initial_rawGet P p (P.map.addr r)).trans ?_
  simp only [map_addr_inj]

theorem initial_LY : (State.initial P p).ioGet .LY = P.lcdResetLy := initial_ioGet_eq P p .LY

theorem initial_STAT : (State.initial P p).ioGet .STAT = 0x01 := initial_ioGet_eq P p .STAT

/-- No named register holds `INIT_RAM`: but for LY and STAT they are 0x00. -/
theorem initial_ioGet {r : IoReg} (h1 : r ≠ .LY) (h2 : r ≠ .STAT) : (State.initial P p).ioGet r = 0x00 := by
  obtain ⟨-, -, hu, -⟩ := map_addr_range P.map r
  have hr : P.map.isInitRam (P.map.addr r) ≠ true := fun e => (isInitRam_storage _ _ e).2 r rfl
  rw [initial_ioGet_eq, if_neg h1, if_neg h2, resetRam_read_usable P hu, if_neg hr]

theorem initial_initRam {x : Nat} (h : P.map.isInitRam x = true) :
    (State.initial P p).rawGet x = (Sparse.find P.initRam x).getD 0x00 := by
  obtain ⟨hs, hr⟩ := isInitRam_storage _ _ h
  have hu := ((isStorage_iff _ _).1 hs).2.2.2
  rw [initial_rawGet, if_neg (hr .LY).symm, if_neg (hr .STAT).symm, resetRam_read_usable P hu, if_pos h]

/-- A blank picture is shade 0 everywhere. -/
theorem pixelAt_nil (y x : Nat) : pixelAt [] y x = 0 := by
  show (List.replicate Config.lineWidth (0 : Shade)).getD x 0 = 0
  rw [List.getD_eq_getElem?_getD, List.getElem?_replicate]
  split <;> rfl

/-- With the default parameters the backing array lists nothing. -/
theorem resetRaw_standard : Params.standard.resetRaw = [] := by decide +kernel

theorem initial_standard_rawGet (x : Nat) :
    (State.initial Params.standard p).rawGet x = if x = 0xFF41 then 0x01 else 0x00 := by
  show Sparse.read Config.resetByte Params.standard.resetRaw x = _
  rw [resetRaw_standard]
  rfl

/-! ### The invariant at reset -/

/-- A table that holds storage alone, in the canonical form: what reset builds up. -/
def RamOk (m : AddressMap) (l : List Host.Cell) : Prop :=
  Memory.wf l = true ∧ l.all (fun c => m.isStorage c.1) = true

theorem RamOk.write {m : AddressMap} {l : List Host.Cell} (h : RamOk m l) {x : Nat} (v : Byte)
    (hx : m.isStorage x = true) : RamOk m (Sparse.write Config.resetByte l x v) :=
  ⟨Sparse.canonical_write _ _ _ _ h.1, Sparse.all_write _ (fun c => m.isStorage c.1) _ _ _ h.2 hx⟩

/-- STAT's default address, outside the unusable region, is storage in every map. -/
theorem isStorage_defaultStat {m : AddressMap} (h : m.isUnusable 0xFF41 = false) : m.isStorage 0xFF41 = true :=
  (isStorage_iff _ _).2 ⟨by decide, by decide, by decide, h⟩

theorem ramOk_resetRam : RamOk P.map P.resetRam := by
  have nil : RamOk P.map [] := ⟨rfl, rfl⟩
  unfold Params.resetRam
  induction P.initRam with
  | nil =>
    rw [List.foldr_nil]
    split
    · exact nil
    · next h => exact nil.write _ (isStorage_defaultStat (Bool.eq_false_iff.2 h))
  | cons c l ih =>
    rw [List.foldr_cons]
    split
    · next h => exact ih.write _ (isInitRam_storage _ _ h).1
    · exact ih

theorem ramOk_resetRaw : RamOk P.map P.resetRaw :=
  ((ramOk_resetRam P).write _ (isStorage_addr _ .STAT)).write _ (isStorage_addr _ .LY)

theorem initial_rawOk : (State.initial P p).rawOk = true := by
  obtain ⟨h1, h2⟩ := ramOk_resetRaw P
  show (Memory.wf P.resetRaw && P.resetRaw.all fun c => P.map.isStorage c.1) = true
  rw [h1, h2]
  rfl

theorem initial_inv (h : P.ok = true) : (State.initial P p).Inv := by
  have hly : P.lcdResetLy.toNat ≤ Config.lastLine := by
    simp only [Params.ok, Bool.and_eq_true, decide_eq_true_eq] at h
    exact h.2
  have hstat : (State.initial P p).statOk := by
    unfold State.statOk
    rw [initial_STAT]
    rfl
  have hl : (State.initial P p).lyOk := by
    unfold State.lyOk
    rw [initial_LY]
    exact ⟨hly, .inl rfl⟩
  have hbank : (State.initial P p).bankOk := show (1 : BitVec 5) ≠ 0 by decide
  have hacc : (State.initial P p).accOk := show 0 < LcdMode.vBlank.budget by decide
  exact ⟨initial_rawOk P p, rfl, rfl, rfl, hbank, hstat, hacc, hl, h⟩

end Reset

/-! ### The statements -/

/-- Settles O7: the fields by definition, the bytes by what the backing array holds after reset. -/
theorem resetGivesTheTableValues : Obligations.ResetGivesTheTableValues := by
  refine ⟨rfl, initial_standard_rawGet, fun P => ⟨?_, ?_, fun p => ?_⟩⟩
  · exact ⟨rfl, rfl, rfl, rfl, rfl, rfl, rfl, rfl, rfl, rfl, rfl⟩
  · exact ⟨rfl, rfl, rfl, rfl, rfl, rfl, rfl, rfl, rfl, rfl, rfl⟩
  · have hc : counter (State.initial P p) = 0 := by
      unfold counter
      rw [initial_ioGet P p (r := .DIV) (by decide) (by decide), initial_ioGet P p (r := .DIVLO) (by decide) (by decide)]
      rfl
    exact ⟨rfl, rfl, rfl, rfl, rfl, rfl, hc, rfl, rfl, rfl, rfl, initial_LY P p, initial_STAT P p,
      fun r => initial_ioGet P p, fun x => initial_initRam P p, fun y x => ⟨pixelAt_nil y x, pixelAt_nil y x⟩, rfl, rfl⟩

/-- Settles O5: reset builds its backing array by writes to storage alone. -/
theorem invariantHoldsAfterReset : Obligations.InvariantHoldsAfterReset :=
  ⟨initial_inv Params.standard .boot rfl, initial_inv⟩

end Machine
end Sys2Proof
end

section
/-! The sprites of a line, their rows and their pixels (R360, R364, R365). -/

namespace Sys2Proof
namespace Machine

section Sprites
variable (s : State) (ly : Nat)

/-! ### The line -/

theorem scanline_getD {x : Nat} (hx : x < 160) : (s.scanline ly).getD x 0 = s.pixelShade (s.lineSprites ly) ly x := by
  simp [State.scanline, List.getD_eq_getElem?_getD, hx]

/-- One more sprite is drawn over what the sprites before it leave. -/
theorem pixelShade_append (rs : List SpriteRow) (r : SpriteRow) (x : Nat) :
    s.pixelShade (rs ++ [r]) ly x = s.spriteOver (s.bgIndex ly x) x (s.pixelShade rs ly x) r := by
  simp [State.pixelShade, List.foldl_append]

theorem lineSprites_off (h : (s.ioGet .LCDC).getLsbD 1 = false) : s.lineSprites ly = [] :=
  if_neg (fun e => Bool.false_ne_true (h.symm.trans e))

theorem lineSprites_on (h : (s.ioGet .LCDC).getLsbD 1 = true) :
    s.lineSprites ly = (List.range 40).filterMap (s.spriteRow ly) := if_pos h

/-! ### The entries of the table -/

/-- Entry `i` is off the screen, or does not cover the line. -/
def State.spriteMisses (s : State) (ly i : Nat) : Prop :=
  let y := (s.rawGet (s.params.map.spriteFirst + 4 * i)).toNat
  let x := (s.rawGet (s.params.map.spriteFirst + 4 * i + 1)).toNat
  y = 0 ∨ 160 ≤ y ∨ x = 0 ∨ 168 ≤ x ∨ ly + 16 < y ∨ y + s.spriteHeight ≤ ly + 16

/-- The line of the tile that entry `i` shows on line `ly`, counted from the other end under the vertical flip. -/
def State.spriteLine (s : State) (ly i : Nat) : Nat :=
  let row := ly + 16 - (s.rawGet (s.params.map.spriteFirst + 4 * i)).toNat
  if bitAt (s.rawGet (s.params.map.spriteFirst + 4 * i + 3)) 6 then s.spriteHeight - 1 - row else row

/-- The address of that line's two plane bytes. -/
def State.spriteAddr (s : State) (ly i : Nat) : Nat :=
  let tile := s.rawGet (s.params.map.spriteFirst + 4 * i + 2)
  0x8000 + (if s.spriteHeight = 16 then tile &&& 0xFE else tile).toNat * 16 + s.spriteLine ly i * 2

variable {s ly}

theorem spriteRow_of_misses {i : Nat} (h : s.spriteMisses ly i) : s.spriteRow ly i = none := by
  unfold State.spriteMisses at h
  unfold State.spriteRow
  simp only
  split
  · rfl
  · rw [if_pos (by omega)]

theorem spriteRow_of_covers {i : Nat} (h : ¬ s.spriteMisses ly i) : s.spriteRow ly i =
    some ⟨s.rawGet (s.params.map.spriteFirst + 4 * i + 1), s.rawGet (s.params.map.spriteFirst + 4 * i + 3),
      s.rawGet (s.spriteAddr ly i), s.rawGet (s.spriteAddr ly i + 1)⟩ := by
  unfold State.spriteMisses at h
  unfold State.spriteRow
  simp only
  rw [if_neg (by omega), if_neg (by omega)]
  rfl

theorem spriteRow_eq_none_iff {i : Nat} : s.spriteRow ly i = none ↔ s.spriteMisses ly i := by
  refine ⟨fun h => by_contra fun hc => ?_, spriteRow_of_misses⟩
  rw [spriteRow_of_covers hc] at h
  cases h

/-- An even tile's number: the lowest bit is dropped. -/
theorem evenTile_toNat (v : Byte) : (v &&& 0xFE).toNat = v.toNat / 2 * 2 := by
  revert v
  decide +kernel

/-- The line of a tile, as the number that fits the equation of R364 for an upright or a flipped sprite. -/
theorem spriteLine_eq {i row : Nat} (h : ¬ s.spriteMisses ly i)
    (h0 : (s.rawGet (s.params.map.spriteFirst + 4 * i + 3)).getLsbD 6 = false →
      (s.rawGet (s.params.map.spriteFirst + 4 * i)).toNat + row = ly + 16)
    (h1 : (s.rawGet (s.params.map.spriteFirst + 4 * i + 3)).getLsbD 6 = true →
      ly + 16 + row = (s.rawGet (s.params.map.spriteFirst + 4 * i)).toNat + s.spriteHeight - 1) :
    s.spriteLine ly i = row := by
  unfold State.spriteMisses at h
  unfold State.spriteLine bitAt
  simp only at h ⊢
  split
  · next e => have := h1 e; omega
  · next e => have := h0 (Bool.eq_false_iff.2 e); omega

theorem spriteAddr_eq {i row : Nat} (h : s.spriteLine ly i = row) : s.spriteAddr ly i =
    0x8000 + (if s.spriteHeight = 16 then (s.rawGet (s.params.map.spriteFirst + 4 * i + 2)).toNat / 2 * 2
      else (s.rawGet (s.params.map.spriteFirst + 4 * i + 2)).toNat) * 16 + row * 2 := by
  unfold State.spriteAddr
  simp only
  rw [h, apply_ite BitVec.toNat, evenTile_toNat]

/-! ### A sprite's pixels -/

theorem index_inside (r : SpriteRow) {x p : Nat} (hp : p < 8) (h : x + 8 = r.xpos.toNat + p) :
    (r.index x).toNat = r.hi.toNat / 2 ^ (if r.attr.getLsbD 5 then p else 7 - p) % 2 * 2
      + r.lo.toNat / 2 ^ (if r.attr.getLsbD 5 then p else 7 - p) % 2 := by
  have hx : x + 8 - r.xpos.toNat = p := by omega
  unfold SpriteRow.index
  simp only
  rw [if_pos (by omega), planeIndex_toNat, hx]
  rfl

theorem index_outside (r : SpriteRow) {x : Nat} (h : x + 8 < r.xpos.toNat ∨ r.xpos.toNat ≤ x) : r.index x = 0 :=
  if_neg (by omega)

variable (s)

theorem spriteOver_hidden (bg : Shade) (x : Nat) (sh : Shade) (r : SpriteRow)
    (h : r.index x = 0 ∨ (r.attr.getLsbD 7 = true ∧ bg ≠ 0)) : s.spriteOver bg x sh r = sh := by
  unfold State.spriteOver
  simp only
  split
  · rfl
  · next h0 => exact if_pos (h.resolve_left h0)

theorem spriteOver_drawn (bg : Shade) (x : Nat) (sh : Shade) (r : SpriteRow) (h0 : r.index x ≠ 0)
    (h : r.attr.getLsbD 7 = false ∨ bg = 0) : (s.spriteOver bg x sh r).toNat =
      (s.ioGet (if r.attr.getLsbD 4 then .OBP1 else .OBP0)).toNat / 4 ^ (r.index x).toNat % 4 := by
  have hn : ¬ (bitAt r.attr 7 = true ∧ bg ≠ 0) := fun ⟨h7, hb⟩ =>
    h.elim (fun e => Bool.false_ne_true (e.symm.trans h7)) hb
  unfold State.spriteOver
  simp only
  rw [if_neg h0, if_neg hn, paletteShade_toNat]
  rfl

end Sprites

/-- Settles O59, part by part: the fold over the sprites, the table's entries, their pixels. -/
theorem spritePixelsCompose : Obligations.SpritePixelsCompose := by
  refine ⟨rfl, fun s ly => ⟨fun x => scanline_getD s ly, pixelShade_append s ly, lineSprites_off s ly, lineSprites_on s ly,
    fun i => ⟨spriteRow_eq_none_iff, ?_⟩, fun r x => ⟨fun p => index_inside r, index_outside r⟩,
    fun bg x sh r => ⟨spriteOver_hidden s bg x sh r, spriteOver_drawn s bg x sh r⟩⟩⟩
  intro r row addr hr h0 h1 ha
  have hc : ¬ s.spriteMisses ly i := fun h => by
    rw [spriteRow_of_misses h] at hr
    cases hr
  have hl := spriteLine_eq hc h0 h1
  rw [spriteRow_of_covers hc, spriteAddr_eq hl] at hr
  rw [ha]
  exact (Option.some.inj hr).symm

end Machine
end Sys2Proof
end

section
/-! The invariant along a machine step (R36, R46, R81, R358): what a step that answers a next state has done, and that
each such thing keeps the invariant. -/

namespace Sys2Proof
namespace Machine

/-! ### What a step that answers a next state has done -/

section StepCases
variable {s t : State}

/-- A machine step is a step of the CPU, and then the devices'. -/
theorem step_next (h : step s = .next t) : ∃ u, s.cpuStep = .next u ∧ t = u.advanceDevices := by
  unfold step State.machineStep at h
  split at h
  · cases h
  split at h
  · cases h
  split at h
  · next u e => exact ⟨u, e, (Host.Outcome.next.inj h).symm⟩
  · cases h
  · cases h

/-- A step of the CPU is an interrupt service, a halted tick or an instruction (R320). -/
theorem cpuStep_next (h : s.cpuStep = .next t) :
    (∃ i, t = s.serviceInterrupt i) ∨ t = s.haltTick ∨ s.executeOne = .next t := by
  unfold State.cpuStep at h
  split at h
  · next i _ => exact .inl ⟨i, (Host.Outcome.next.inj h).symm⟩
  split at h
  · exact .inr (.inl (Host.Outcome.next.inj h).symm)
  · exact .inr (.inr h)

/-- An instruction is the fatal exception at a hole, or the meaning of what the tables select at `PC`, finished. -/
theorem executeOne_next (h : s.executeOne = .next t) :
    t = s.raiseHole (s.fetchByte 0) (s.fetchByte 1)
      ∨ ∃ u, exec s.instrAtPc (s.setPc (s.pc + BitVec.ofNat 16 s.lengthAtPc)) = .next u
          ∧ t = u.finish s.costAtPc s.instrAtPc := by
  unfold State.executeOne at h
  split at h
  · exact .inl (Host.Outcome.next.inj h).symm
  split at h
  · next u e => exact .inr ⟨u, e, (Host.Outcome.next.inj h).symm⟩
  · cases h
  · cases h

end StepCases

/-! ### A step of the CPU -/

theorem Evolves.endInstruction {s t : State} (h : Evolves s t) : Evolves s t.endInstruction := by
  unfold State.endInstruction
  split
  · exact h
  · exact (h.setImeDelay _).setIme _
  · exact h.setImeDelay _

theorem Evolves.finish {s t : State} (h : Evolves s t) (cost : Nat × Nat) (i : Instr) :
    Evolves s (t.finish cost i) := by
  unfold State.finish
  split
  · exact h
  · exact (h.charge _).endInstruction

/-- An instruction, the fatal exception at a hole included, changes the CPU and performs mapped writes, and nothing else. -/
theorem evolves_executeOne {s t : State} (h : s.executeOne = .next t) : Evolves s t := by
  obtain rfl | ⟨u, e, rfl⟩ := executeOne_next h
  · rw [raiseHole_eq]
    exact (Evolves.refl.setPc _).setFault _
  · exact ((Evolves.refl.setPc _).trans (evolves_exec _ _ _ e)).finish _ _

/-- A step of the CPU keeps the invariant. -/
theorem State.Inv.cpuStep {s t : State} (hi : s.Inv) (h : s.cpuStep = .next t) : t.Inv := by
  obtain ⟨i, rfl⟩ | rfl | e := cpuStep_next h
  · exact hi.serviceInterrupt i
  · exact hi.evolves (Evolves.refl.charge _)
  · exact hi.evolves (evolves_executeOne e)

/-! ### The count a step of the CPU reports -/

theorem serviceInterrupt_cycles (s : State) (i : IntSource) :
    (s.serviceInterrupt i).cycles = s.params.intDispatchCycles := by
  simp [State.serviceInterrupt]

/-- The counts of a service and of a halted tick are below the shortest display budget. -/
theorem Params.ok_cycles {P : Params} (h : P.ok = true) : P.intDispatchCycles < 80 ∧ P.haltTickCycles < 80 := by
  simp only [Params.ok, Bool.and_eq_true, decide_eq_true_eq] at h
  exact h.1.1.1

theorem finish_cycles_lt {u : State} {cost : Nat × Nat} (i : Instr) (hc : cost.1 + cost.2 < 80)
    (hf : (u.finish cost i).fault = none) : (u.finish cost i).cycles < 80 := by
  by_cases hu : u.fault = none
  · rw [finish_running cost i hu, endInstruction_cycles, State.setCycles_cycles]
    exact reportedCycles_lt cost i _ hc
  · rw [finish_faulted cost i hu] at hf
    exact absurd hf hu

/-- With parameters that are ok, a step of the CPU that does not fault reports less than the shortest display budget. -/
theorem cpuStep_cycles_lt {s t : State} (hp : s.params.ok = true) (h : s.cpuStep = .next t) (hf : t.fault = none) :
    t.cycles < 80 := by
  obtain ⟨hd, hh⟩ := Params.ok_cycles hp
  obtain ⟨i, rfl⟩ | rfl | e := cpuStep_next h
  · rw [serviceInterrupt_cycles]
    exact hd
  · exact hh
  · obtain rfl | ⟨u, -, rfl⟩ := executeOne_next e
    · rw [raiseHole_eq] at hf
      cases hf
    · exact finish_cycles_lt _ (costOf_lt s.params hp _ _ _) hf

/-! ### The devices -/

/-- The devices keep the invariant for the counts that a step reports. -/
theorem State.Inv.advanceDevices {s : State} (h : s.Inv) (hc : s.fault = none → s.cycles < 80) :
    s.advanceDevices.Inv := by
  by_cases hf : s.fault = none
  · rw [advanceDevices_running hf]
    exact (h.displayAdvance _ (hc hf)).timerAdvance _
  · rwa [advanceDevices_faulted hf]

/-- Settles O6: the CPU keeps the invariant, and reports a count for which the devices keep it. -/
theorem invariantKeptByEveryStep : Obligations.InvariantKeptByEveryStep := by
  intro s s' hi h
  obtain ⟨t, ht, rfl⟩ := step_next h
  have hp : s.params.ok = true := hi.core.2.2.2.2.2
  exact (hi.cpuStep ht).advanceDevices (cpuStep_cycles_lt hp ht)

end Machine
end Sys2Proof
end

section
/-! The control state of the CPU: which instructions touch it (R26, R27, R29, R312). -/

namespace Sys2Proof
namespace Machine

open Stated

/-! ### The forms -/

/-- The forms that write `halted`, `stopped`, the fault latch, IME or its delay; and the row of 0xCB alone, which runs
another form. -/
def Form.ownsControl : Form → Bool
  | .reti | .halt | .stop | .disableInterrupts | .enableInterrupts | .prefixed | .raiseUnimplemented _ => true
  | _ => false

theorem controlKept_ite {s t u : State} (c : Bool) (ht : ControlKept s t) (hu : ControlKept s u) :
    ControlKept s (if c then t else u) := by
  cases c
  · exact hu
  · exact ht

/-- Every other form keeps the control state. -/
theorem controlKept_form (f : Form) (s : State) (h : f.ownsControl = false) : ControlKept s (f.run s) := by
  cases f with
  | reti | halt | stop | disableInterrupts | enableInterrupts | prefixed | raiseUnimplemented _ => cases h
  | jumpIf | jumpRelIf | callIf | retIf =>
    refine controlKept_ite _ ?_ ?_ <;> simp [ControlKept, State.popped]
  | ldRegReg | ldRegImm | ldRegMem | ldAPair | ldAAbs | ldAHighImm | ldAHighC | ldAHlInc | ldAHlDec =>
    simp [ControlKept, Form.run, State.ldRegReg, State.ldRegImm, State.ldRegMem, State.ldAPair, State.ldAAbs,
      State.ldAHighImm, State.ldAHighC, State.ldAHlInc, State.ldAHlDec]
  | ldMemReg | ldMemImm | stAPair | stAAbs | stAHighImm | stAHighC | stAHlInc | stAHlDec =>
    simp [ControlKept, Form.run, State.ldMemReg, State.ldMemImm, State.stAPair, State.stAAbs, State.stAHighImm,
      State.stAHighC, State.stAHlInc, State.stAHlDec]
  | ldPairImm | stSpAbs | ldSpHl | ldHlSp | pushPair | pushAf | popPair | popAf =>
    simp [ControlKept, Form.run, State.ldPairImm, State.stSpAbs, State.ldSpHl, State.ldHlSp, State.pushPair, State.pushAf,
      State.popPair, State.popAf, State.popped, State.setAf]
  | aluReg | aluMem | aluImm | incReg | incMem | decReg | decMem | decimalAdjust | complement | setCarry | toggleCarry =>
    simp [ControlKept, Form.run, State.aluReg, State.aluMem, State.aluImm, State.alu, State.incReg, State.incMem,
      State.decReg, State.decMem, State.decimalAdjust, State.complement, State.setCarry, State.toggleCarry]
  | addHl | incPair | decPair | addSpImm =>
    simp [ControlKept, Form.run, State.addHl, State.incPair, State.decPair, State.addSpImm]
  | rotateA | shiftReg | shiftMem | bitReg | bitMem | resReg | resMem | setReg | setMem =>
    simp [ControlKept, Form.run, State.rotateA, State.shiftReg, State.shiftMem, State.bitReg, State.bitMem, State.resReg,
      State.resMem, State.setReg, State.setMem]
  | jump | jumpHl | jumpRel | call | ret | restart | noOperation =>
    simp [ControlKept, Form.run, State.jump, State.jumpHl, State.jumpRel, State.call, State.ret, State.restart,
      State.noOperation, State.popped]

theorem ownsControl_decodeExtended (b1 : Byte) : (formOf (decodeExtended b1)).ownsControl = false := by
  revert b1
  decide +kernel

/-- The row of 0xCB alone runs a form of the extended page, and none of them touches the control state. -/
theorem controlKept_prefixed (s : State) : ControlKept s s.prefixed := by
  unfold State.prefixed
  rw [extended_form]
  exact controlKept_form _ (s.setPc _) (ownsControl_decodeExtended _)

/-! ### The instructions -/

/-- The instructions that write the control state. -/
def writesControl : Instr → Bool
  | .ei | .di | .reti | .halt | .stop _ | .undefined _ => true
  | _ => false

theorem writesControl_cases {i : Instr} (h : writesControl i = true) :
    i = .ei ∨ i = .di ∨ i = .reti ∨ i = .halt ∨ (∃ p, i = .stop p) ∨ ∃ op, i = .undefined op := by
  unfold writesControl at h
  split at h
  · exact .inl rfl
  · exact .inr (.inl rfl)
  · exact .inr (.inr (.inl rfl))
  · exact .inr (.inr (.inr (.inl rfl)))
  · exact .inr (.inr (.inr (.inr (.inl ⟨_, rfl⟩))))
  · exact .inr (.inr (.inr (.inr (.inr ⟨_, rfl⟩))))
  · cases h

@[simp] theorem enableInterrupts_halted (s : State) : s.enableInterrupts.halted = s.halted := by
  unfold State.enableInterrupts
  split <;> rfl

@[simp] theorem enableInterrupts_stopped (s : State) : s.enableInterrupts.stopped = s.stopped := by
  unfold State.enableInterrupts
  split <;> rfl

theorem ownsControl_formOf (i : Instr) (h : i ≠ .prefixCB) : (formOf i).ownsControl = writesControl i := by
  cases i with
  | prefixCB => exact absurd rfl h
  | _ => rfl

/-- Every other instruction keeps the control state. -/
theorem controlKept_exec {i : Instr} {s t : State} (hi : writesControl i = false) (h : exec i s = .next t) :
    ControlKept s t := by
  rw [exec_form] at h
  cases h
  by_cases hp : i = .prefixCB
  · subst hp
    exact controlKept_prefixed s
  · exact controlKept_form _ s ((ownsControl_formOf i hp).trans hi)

@[simp] theorem reti_halted (s : State) : s.reti.halted = s.halted := by
  simp [State.reti, State.returnFromInterrupt, State.popped]

@[simp] theorem reti_stopped (s : State) : s.reti.stopped = s.stopped := by
  simp [State.reti, State.returnFromInterrupt, State.popped]

/-- What no instruction writes, whatever it stores. -/
theorem displayKept_evolves {s t : State} (h : Evolves s t) : DisplayKept s t := by
  induction h with
  | refl => exact ⟨rfl, rfl, rfl, rfl, rfl, rfl, rfl, rfl, rfl⟩
  | cpu _ e ih =>
    obtain ⟨-, -, -, hrom, hboot, -, hpo, hmode, hacc, hback, hframe, hready, hparams⟩ := e
    exact displayKept_trans ih ⟨hparams, hrom, hboot, hpo, hmode, hacc, hback, hframe, hready⟩
  | store _ a v ih => exact displayKept_trans ih (displayKept_memWrite _ a v)

/-- Settles O12: an instruction keeps the whole control state or is one of six, whose own writes are plain to see. -/
theorem controlStateHasItsOwnInstructions : Obligations.ControlStateHasItsOwnInstructions := by
  intro i s t h
  have hd : DisplayKept s t := displayKept_evolves (evolves_exec i s t h)
  cases hi : writesControl i
  · obtain ⟨hh, hs, -, hime, hdelay⟩ := controlKept_exec hi h
    exact ⟨fun _ _ _ => ⟨hime, hdelay⟩, fun _ => hh, fun _ => hs, hd⟩
  · obtain rfl | rfl | rfl | rfl | ⟨p, rfl⟩ | ⟨op, rfl⟩ := writesControl_cases hi
    · obtain rfl : s.enableInterrupts = t := Host.Outcome.next.inj h
      exact ⟨fun hn => absurd rfl hn, fun _ => enableInterrupts_halted s, fun _ => enableInterrupts_stopped s, hd⟩
    · obtain rfl : s.disableInterrupts = t := Host.Outcome.next.inj h
      exact ⟨fun _ hn => absurd rfl hn, fun _ => rfl, fun _ => rfl, hd⟩
    · obtain rfl : s.reti = t := Host.Outcome.next.inj h
      exact ⟨fun _ _ hn => absurd rfl hn, fun _ => reti_halted s, fun _ => reti_stopped s, hd⟩
    · obtain rfl : s.halt = t := Host.Outcome.next.inj h
      exact ⟨fun _ _ _ => ⟨rfl, rfl⟩, fun hn => absurd rfl hn, fun _ => rfl, hd⟩
    · obtain rfl : s.stop = t := Host.Outcome.next.inj h
      exact ⟨fun _ _ _ => ⟨rfl, rfl⟩, fun _ => rfl, fun hn => absurd rfl (hn p), hd⟩
    · obtain rfl : s.raiseUnimplemented [op] = t := Host.Outcome.next.inj h
      exact ⟨fun _ _ _ => ⟨rfl, rfl⟩, fun _ => rfl, fun _ => rfl, hd⟩

end Machine
end Sys2Proof
end

section
/-! The canonical form of a table of bytes: what is read of it determines it (R32, log entry 14). -/

namespace Sys2Proof
namespace Machine

/-- Where every key lies above `k`, nothing is listed at or below `k`. -/
theorem find_none_of_above {k x : Nat} {m : Memory} (h : Sparse.above k m = true) (hx : x ≤ k) : Sparse.find m x = none := by
  simp only [Sparse.above, List.all_eq_true, decide_eq_true_eq] at h
  exact find_none_of_lt fun c hc => Nat.lt_of_le_of_lt hx (h c hc)

theorem canonical_cons (d : Nat → Byte) (k : Nat) (v : Byte) (m : Memory) :
    Sparse.canonical d ((k, v) :: m) = true ↔ Sparse.above k m = true ∧ v ≠ d k ∧ Sparse.canonical d m = true := by
  simp only [Sparse.canonical, Sparse.rising_cons, List.all_cons, Bool.and_eq_true, decide_eq_true_eq]
  tauto

/-- A table that reads like a canonical one at the first key of that one lists the key. -/
theorem find_ne_none_of_read_eq (d : Nat → Byte) {k : Nat} {v : Byte} {m m' : Memory} (h : Sparse.canonical d ((k, v) :: m) = true)
    (e : Sparse.read d ((k, v) :: m) k = Sparse.read d m' k) : Sparse.find m' k ≠ none := by
  intro hn
  obtain ⟨-, hv, -⟩ := (canonical_cons d k v m).1 h
  simp only [Sparse.read, Sparse.find, hn, if_true, Option.getD_some, Option.getD_none] at e
  exact hv e

/-- The first keys of two canonical tables that read alike are in the same place: none is below the other. -/
theorem first_key_le (d : Nat → Byte) {k j : Nat} {v w : Byte} {m l : Memory}
    (h : Sparse.canonical d ((k, v) :: m) = true) (h' : Sparse.canonical d ((j, w) :: l) = true)
    (e : Sparse.read d ((k, v) :: m) k = Sparse.read d ((j, w) :: l) k) : j ≤ k := by
  by_contra hlt
  obtain ⟨ha, -, -⟩ := (canonical_cons d j w l).1 h'
  refine find_ne_none_of_read_eq d h e ?_
  rw [Sparse.find, if_neg (by omega), find_none_of_above ha (by omega)]

/-- Two canonical tables that read alike are equal. -/
theorem canonical_ext (d : Nat → Byte) {m m' : Memory} (h : Sparse.canonical d m = true)
    (h' : Sparse.canonical d m' = true) (e : ∀ x, Sparse.read d m x = Sparse.read d m' x) : m = m' := by
  induction m generalizing m' with
  | nil =>
    cases m' with
    | nil => rfl
    | cons c l => exact absurd rfl (find_ne_none_of_read_eq d h' (e c.1).symm)
  | cons c m ih =>
    obtain ⟨k, v⟩ := c
    cases m' with
    | nil => exact absurd rfl (find_ne_none_of_read_eq d h (e k))
    | cons c l =>
      obtain ⟨j, w⟩ := c
      obtain rfl : j = k := Nat.le_antisymm (first_key_le d h h' (e k)) (first_key_le d h' h (e j).symm)
      obtain ⟨ha, -, hm⟩ := (canonical_cons d j v m).1 h
      obtain ⟨ha', -, hl⟩ := (canonical_cons d j w l).1 h'
      have hvw : v = w := by simpa [Sparse.read, Sparse.find] using e j
      have tails : ∀ x, Sparse.read d m x = Sparse.read d l x := fun x => by
        by_cases hx : j = x
        · subst hx
          simp only [Sparse.read, find_none_of_above ha (Nat.le_refl j), find_none_of_above ha' (Nat.le_refl j)]
        · simpa only [Sparse.read, Sparse.find, if_neg hx] using e x
      rw [hvw, ih hm hl tails]

/-- Settles O25: the form of the backing array is the canonical form over its reset values. -/
theorem canonicalMemoriesAreDetermined : Obligations.CanonicalMemoriesAreDetermined :=
  fun _ _ h h' e => canonical_ext Config.resetByte h h' e

end Machine
end Sys2Proof
end

section
/-! Writes in the I/O page, register by register (R72). -/

namespace Sys2Proof
namespace Machine

open Stated

section IoWrites
variable (s : State) (v : Byte)

/-- A mapped write at a named register but IE is `IoWrite` there. -/
theorem memWrite_regAt {r : IoReg} (h : r ≠ .IE) :
    s.memWrite (regAt s r) v = s.ioWrite (s.params.map.addr r) v := by
  have ha := regAt_toNat s r
  rw [memWrite_io_eq s _ v (ha ▸ map_addr_io _ r h), ha]

/-! ### What `IoWrite` does at each register that has a side effect -/

theorem ioWrite_DIVLO : s.ioWrite (s.params.map.addr .DIVLO) v = (s.setSyscnt 0).setLastSample false := by
  simp [State.ioWrite]

theorem ioWrite_DIV : s.ioWrite (s.params.map.addr .DIV) v = (s.setSyscnt 0).setLastSample false := by
  simp [State.ioWrite]

theorem ioWrite_TAC : s.ioWrite (s.params.map.addr .TAC) v =
    (s.ioSet .TAC v).setLastSample (s.syscnt.getLsbD (timerTap v)) := by
  simp [State.ioWrite, State.ioSet]

theorem ioWrite_BOOTOFF : s.ioWrite (s.params.map.addr .BOOTOFF) v =
    (s.ioSet .BOOTOFF v).setBootActive (s.bootActive && decide (v = 0)) := by
  have e : s.ioWrite (s.params.map.addr .BOOTOFF) v =
      if v ≠ 0 then (s.ioSet .BOOTOFF v).setBootActive false else s.ioSet .BOOTOFF v := by
    simp [State.ioWrite, State.ioSet]
  rw [e]
  split
  · next h => rw [decide_eq_false h, Bool.and_false]
  · next h => rw [decide_eq_true (not_not.1 h), Bool.and_true]; rfl

/-- At every other address of the page the byte is stored. -/
theorem ioWrite_storage {x : Nat}
    (h : ∀ r ∈ [IoReg.DIVLO, .DIV, .TAC, .STAT, .LY, .DMA, .BOOTOFF], x ≠ s.params.map.addr r) :
    s.ioWrite x v = s.rawSet x v := by
  simp only [List.forall_mem_cons, List.not_mem_nil, false_imp_iff, implies_true, and_true] at h
  obtain ⟨h1, h2, h3, h4, h5, h6, h7⟩ := h
  simp [State.ioWrite, h1, h2, h3, h4, h5, h6, h7]

/-! ### What is read afterwards -/

/-- The counter as a number is the model's `SYSCNT`. -/
theorem counter_eq : counter s = s.syscnt.toNat := (joinBytes_toNat _ _).symm

/-- A counter write stores 0 in both bytes, whatever is written. -/
theorem counter_cleared (b : Bool) : counter ((s.setSyscnt 0).setLastSample b) = 0 := by
  rw [counter_eq]
  show (s.setSyscnt 0).syscnt.toNat = 0
  rw [setSyscnt_syscnt]
  rfl

/-- STAT keeps its three low bits and takes the others from the byte written (R44). -/
theorem stat_merge_getLsbD (v w : Byte) (k : Nat) :
    ((v &&& 0xF8) ||| (w &&& 0x07)).getLsbD k = if k < 3 then w.getLsbD k else v.getLsbD k := by
  by_cases h : k < 8
  · have bits : ∀ j : Fin 8, (0xF8 : Byte).getLsbD j = decide (3 ≤ j.val) ∧ (0x07 : Byte).getLsbD j = decide (j.val < 3) := by
      decide
    obtain ⟨e1, e2⟩ := bits ⟨k, h⟩
    rw [BitVec.getLsbD_or, BitVec.getLsbD_and, BitVec.getLsbD_and, e1, e2]
    by_cases h3 : k < 3
    · simp [h3]
    · simp [h3, Nat.le_of_not_lt h3]
  · simp [BitVec.getLsbD_of_ge _ k (Nat.le_of_not_lt h)]

/-- A byte stored at an address of the I/O page that has no side effect reads back. -/
theorem memRead_memWrite_io {a : Word} (ha : s.params.map.isIo a.toNat = true)
    (h : a ∉ [IoReg.DIVLO, .DIV, .TAC, .STAT, .LY, .DMA, .BOOTOFF].map (regAt s)) : (s.memWrite a v).memRead a = v := by
  have hne : ∀ r ∈ [IoReg.DIVLO, .DIV, .TAC, .STAT, .LY, .DMA, .BOOTOFF], a.toNat ≠ s.params.map.addr r :=
    fun r hr e => h (List.mem_map.2 ⟨r, hr, BitVec.eq_of_toNat_eq ((regAt_toNat s r).trans e.symm)⟩)
  have storage : s.params.map.isStorage a.toNat = true := by
    obtain ⟨h1, h2, h3⟩ := map_io _ ha
    exact (isStorage_iff _ _).2 ⟨by omega, by omega, by omega, h3⟩
  rw [memWrite_io_eq s a v ha, ioWrite_storage s v hne, memRead_storage (s.rawSet _ v) a storage, rawGet_rawSet_same]

end IoWrites

/-- Settles O23, register by register from what `IoWrite` does there. -/
theorem ioWritesHaveTheirSideEffects : Obligations.IoWritesHaveTheirSideEffects := by
  refine ⟨fun s v => ?_, rfl, rfl⟩
  intro W
  have hW : ∀ r, r ≠ .IE → W r = s.ioWrite (s.params.map.addr r) v := fun r => memWrite_regAt s v
  refine ⟨?_, ?_, ?_, ?_, ?_, ?_, ?_, fun a h1 h2 h => memRead_memWrite_io s v ((isIo_iff _ _).2 ⟨h1, h2⟩) h, memRead_addr s⟩
  · rw [hW .DIVLO (by decide), ioWrite_DIVLO]
    exact ⟨counter_cleared s false, rfl⟩
  · rw [hW .DIV (by decide), ioWrite_DIV]
    exact ⟨counter_cleared s false, rfl⟩
  · rw [hW .TAC (by decide), ioWrite_TAC, counter_eq]
    exact ⟨ioGet_ioSet_same s .TAC v, rfl⟩
  · rw [hW .STAT (by decide), ioWrite_STAT, ioGet_ioSet_same]
    exact stat_merge_getLsbD v _
  · rw [hW .LY (by decide), ioWrite_LY]
  · rw [hW .BOOTOFF (by decide), ioWrite_BOOTOFF]
    exact ⟨ioGet_ioSet_same s .BOOTOFF v, rfl⟩
  · show (s.memWrite (regAt s .DMA) v).ioGet .DMA = v
    rw [memWrite_DMA, dmaCopy_ioGet, ioGet_ioSet_same]

end Machine
end Sys2Proof
end

section
/-! The host: what it may do to a machine, and what a session keeps (R59, R380 to R386, R400). -/

namespace Sys2Proof
namespace Machine

open Stated

/-! ### What a session takes before its first step, and no step writes (R59) -/

/-- The parameters and the two images. -/
def State.inputs (s : State) : Params × Memory × Memory := (s.params, s.rom, s.boot)

section Inputs
variable (s : State)

theorem inputs_eq_iff {s t : State} : t.inputs = s.inputs ↔ t.params = s.params ∧ t.rom = s.rom ∧ t.boot = s.boot := by
  simp [State.inputs]

theorem evolves_inputs {s t : State} (h : Evolves s t) : t.inputs = s.inputs := by
  obtain ⟨hp, hr, hb, -⟩ := displayKept_evolves h
  exact inputs_eq_iff.2 ⟨hp, hr, hb⟩

@[simp] theorem ioSet_inputs (r : IoReg) (v : Byte) : (s.ioSet r v).inputs = s.inputs := rfl

@[simp] theorem raiseBit_inputs (r : IoReg) (k : Nat) : (s.raiseBit r k).inputs = s.inputs := rfl

@[simp] theorem setLy_inputs (v : Byte) : (s.setLy v).inputs = s.inputs := rfl

@[simp] theorem setLcdAcc_inputs (n : Nat) : (s.setLcdAcc n).inputs = s.inputs := rfl

@[simp] theorem enterMode_inputs (m : LcdMode) : (s.enterMode m).inputs = s.inputs := rfl

@[simp] theorem publishFrame_inputs : s.publishFrame.inputs = s.inputs := rfl

@[simp] theorem requestLcd_inputs (k : Nat) : (s.requestLcd k).inputs = s.inputs := by
  obtain e | ⟨v, e⟩ := requestLcd_cases s k <;> rw [e]
  rfl

@[simp] theorem compareLy_inputs : s.compareLy.inputs = s.inputs := by
  obtain ⟨v, e | ⟨w, e⟩⟩ := compareLy_cases s <;> rw [e] <;> rfl

@[simp] theorem renderLine_inputs : s.renderLine.inputs = s.inputs := by
  unfold State.renderLine
  split <;> rfl

@[simp] theorem enterOamScan_inputs : s.enterOamScan.inputs = s.inputs := by simp [State.enterOamScan]

@[simp] theorem enterVBlank_inputs : s.enterVBlank.inputs = s.inputs := by simp [State.enterVBlank]

@[simp] theorem leaveMode_inputs : s.leaveMode.inputs = s.inputs := by
  unfold State.leaveMode
  split
  · simp
  · simp
  · unfold State.leaveHBlank
    simp only
    split <;> simp
  · unfold State.endVBlankLine
    simp only
    split <;> simp

theorem displayAdvance_inputs (n : Nat) : (s.displayAdvance n).inputs = s.inputs := by
  unfold State.displayAdvance
  simp only
  split <;> simp

@[simp] theorem setPendingOverflow_inputs (b : Bool) : (s.setPendingOverflow b).inputs = s.inputs := rfl

@[simp] theorem setLastSample_inputs (b : Bool) : (s.setLastSample b).inputs = s.inputs := rfl

@[simp] theorem tickCounter_inputs : s.tickCounter.inputs = s.inputs := by simp [State.tickCounter, State.setSyscnt]

@[simp] theorem tickReload_inputs : s.tickReload.inputs = s.inputs := by
  unfold State.tickReload
  split <;> simp

@[simp] theorem countTima_inputs : s.countTima.inputs = s.inputs := by
  unfold State.countTima
  simp only
  split <;> simp

@[simp] theorem tickSample_inputs : s.tickSample.inputs = s.inputs := by
  unfold State.tickSample
  split
  · split <;> simp
  · rfl

theorem timerAdvance_inputs (n : Nat) : (s.timerAdvance n).inputs = s.inputs := by
  induction n generalizing s with
  | zero => rfl
  | succ n ih => exact (ih s.timerTick).trans (by simp [State.timerTick])

theorem advanceDevices_inputs : s.advanceDevices.inputs = s.inputs := by
  unfold State.advanceDevices
  split
  · rfl
  · rw [timerAdvance_inputs, displayAdvance_inputs]

theorem serviceInterrupt_inputs (i : IntSource) : (s.serviceInterrupt i).inputs = s.inputs := by
  simp [State.serviceInterrupt, State.inputs]

/-- No machine step writes the parameters or an image. -/
theorem step_inputs {s t : State} (h : step s = .next t) : t.inputs = s.inputs := by
  obtain ⟨u, hu, rfl⟩ := step_next h
  rw [advanceDevices_inputs]
  obtain ⟨i, rfl⟩ | rfl | e := cpuStep_next hu
  · exact serviceInterrupt_inputs s i
  · rfl
  · exact evolves_inputs (evolves_executeOne e)

end Inputs

/-! ### The host's actions -/

/-- An action of the host between two steps leaves the parameters and the images alone. -/
theorem hostAction_inputs {act : HostAction} {s t : State} (h : act.apply s = some t) : t.inputs = s.inputs := by
  cases act with
  | writeJoyp v | requestSerial | requestInput =>
    obtain rfl := Option.some.inj h
    rfl
  | takeFrame | resume =>
    obtain ⟨-, h⟩ := Option.ite_none_right_eq_some.1 h
    obtain rfl := Option.some.inj h
    rfl

/-- A request of the host sets one bit of IF. -/
theorem raiseBit_IF (s : State) {k : Nat} (hk : k < 8) : ∃ f, IsWithBit (s.rawGet (s.params.map.addr .IF)) k true f
    ∧ some (s.raiseBit .IF k) = some (s.rawSet (s.params.map.addr .IF) f) :=
  ⟨_, fun j => getLsbD_withBit _ k j true hk, rfl⟩

/-- The plain regions of the model are those of the statements. -/
theorem isPlain_iff_inPlainRegion (m : AddressMap) (a : Word) : m.isPlain a.toNat = true ↔ InPlainRegion m a := by
  rw [isPlain_iff, InPlainRegion, plain_iff]
  tauto

/-- The overlay image a host supplies is read byte by byte. -/
theorem bootByte_loadBoot (s : State) {image : List Byte} {i : Nat} (h : i < image.length) :
    (s.setBoot (allCells 0 image)).bootByte i = image.getD i 0 := by
  have e := allCells_find image 0 i h
  rw [Nat.zero_add] at e
  unfold State.bootByte
  rw [State.setBoot_boot, e]

/-- The cartridge image a host supplies is read byte by byte, and 0xFF past its end. -/
theorem romByte_loadCartridge (s : State) (image : List Byte) (i : Nat) :
    (s.setRom (imageCells (fun _ => Config.romPastEnd) 0 image)).romByte i = image.getD i 0xFF := by
  have e := imageCells_read Config.romPastEnd image 0 i
  rwa [Nat.zero_add] at e

/-! ### Sessions -/

/-- What the host supplies while no session runs is taken where it is allowed, and has no result where it is not. -/
theorem next_setup {act : SetupAction} {s t : State} (h : act.apply s = some t) :
    Session.next ⟨s, false⟩ (.setup act) = some ⟨t, false⟩ := congrArg (Option.map _) h

theorem next_setup_refused {act : SetupAction} {s : State} (h : act.apply s = none) :
    Session.next ⟨s, false⟩ (.setup act) = none := congrArg (Option.map _) h

theorem nextState_eq_some {r : Result} {t : State} : nextState r = some t ↔ r = .next t := by
  cases r <;> simp [nextState]

/-- The host's reset is the machine's, but profile `boot` needs an overlay image (R401, log entry 1). -/
theorem hostReset_eq_some {s t : State} {p : Profile} :
    s.hostReset p = some t ↔ ¬ (p = .boot ∧ s.boot = []) ∧ t = s.resetWith p := by
  unfold State.hostReset
  rw [Option.ite_none_left_eq_some, Option.some.injEq, eq_comm (a := t)]

theorem resetWith_inputs (s : State) (p : Profile) : (s.resetWith p).inputs = s.inputs := rfl

/-- Reset gives every item its reset value, but for the images. -/
theorem resetWith_initial (s : State) (p : Profile) : ((s.resetWith p).setRom []).setBoot [] = State.initial s.params p := rfl

/-- While a session runs, every event but its end leaves it running, with the parameters and images it has. -/
theorem next_running {s : State} {e : Event} {τ : Session} (he : e ≠ .close) (h : Session.next ⟨s, true⟩ e = some τ) :
    τ.running = true ∧ τ.machine.inputs = s.inputs := by
  cases e with
  | setup act => cases h
  | close => exact absurd rfl he
  | reset p =>
    obtain ⟨t, ht, rfl⟩ := Option.map_eq_some_iff.1 h
    obtain ⟨-, rfl⟩ := hostReset_eq_some.1 ht
    exact ⟨rfl, resetWith_inputs s p⟩
  | host act =>
    obtain ⟨t, ht, rfl⟩ := Option.map_eq_some_iff.1 h
    exact ⟨rfl, hostAction_inputs ht⟩
  | machine =>
    obtain ⟨t, ht, rfl⟩ := Option.map_eq_some_iff.1 h
    exact ⟨rfl, step_inputs (nextState_eq_some.1 ht)⟩

/-- A session that is not closed goes on running, with the parameters and images it began with. -/
theorem runSession_running {es : List Event} {s : State} {τ : Session} (hc : .close ∉ es)
    (h : runSession es ⟨s, true⟩ = some τ) : τ.running = true ∧ τ.machine.inputs = s.inputs := by
  induction es generalizing s with
  | nil =>
    obtain rfl := Option.some.inj h
    exact ⟨rfl, rfl⟩
  | cons e es ih =>
    obtain ⟨he, hes⟩ := List.ne_and_not_mem_of_not_mem_cons hc
    obtain ⟨⟨t, on⟩, ht, hrun⟩ := Option.bind_eq_some_iff.1 h
    obtain ⟨rfl, hin⟩ := next_running he.symm ht
    obtain ⟨hon, hτ⟩ := ih hes hrun
    exact ⟨hon, hτ.trans hin⟩

/-- Settles O60: the actions and events by their branches, a running session by induction on its events. -/
theorem hostActionsAreLocal : Obligations.HostActionsAreLocal := by
  refine ⟨fun s v => ?_, fun s => ?_, fun s on p => ⟨fun h => ?_, fun h => ?_⟩,
    fun s => ⟨fun act => rfl, fun act t => ?_, fun t => ?_, fun es τ hc h => ?_⟩⟩
  · have off {b : Bool} : b = false → b ≠ true := ne_true_of_eq_false
    exact ⟨rfl, raiseBit_IF s (k := 3) (by decide), raiseBit_IF s (k := 4) (by decide),
      fun h => ⟨if_pos h, if_pos h⟩, fun h => ⟨if_neg (off h), if_neg (off h)⟩, fun h => if_pos h,
      fun h => if_neg (off h), Prod.ext (memRead_addr s .SB).symm (memRead_addr s .SC).symm⟩
  · refine ⟨fun P => rfl, fun image => ⟨_, rfl, romByte_loadCartridge s image⟩,
      fun image h => ⟨_, next_setup (if_pos h), fun i hi => bootByte_loadBoot s (h ▸ hi)⟩,
      fun image h => next_setup_refused (if_neg h), fun a v h => ?_, fun a v h => ?_, fun act => rfl, rfl⟩
    · exact next_setup (if_pos ((isPlain_iff_inPlainRegion _ a).2 h))
    · exact next_setup_refused (if_neg (mt (isPlain_iff_inPlainRegion _ a).1 h))
  · have allowed : s.hostReset p = some (s.resetWith p) :=
      hostReset_eq_some.2 ⟨fun ⟨hp, hb⟩ => h.elim (fun e => by cases hp.symm.trans e) (fun e => e hb), rfl⟩
    exact ⟨s.resetWith p, congrArg (Option.map _) allowed, rfl, rfl, resetWith_initial s p⟩
  · exact congrArg (Option.map _) (if_pos ⟨rfl, h⟩)
  · simp only [Session.next, if_true, Option.map_eq_some_iff, eq_comm (a := t)]
  · simp only [Session.next, if_true, Option.map_eq_some_iff, nextState_eq_some, eq_comm (a := t)]
  · obtain ⟨hon, hin⟩ := runSession_running hc h
    exact ⟨hon, inputs_eq_iff.1 hin⟩

end Machine
end Sys2Proof
end

section
/-! The mapped read and write on the mirror and in the cartridge window; POP after PUSH; that every instruction completes;
and the two early modes of the display. -/

namespace Sys2Proof
namespace Machine

open Stated

/-! ### The frame of a mapped write (R64) -/

/-- A mapped write leaves the registers alone. -/
theorem regsKept_memWrite (s : State) (a : Word) (v : Byte) : RegsKept [] s (s.memWrite a v) := fun r _ =>
  getReg8_congr (memWrite_a s a v) (memWrite_b s a v) (memWrite_c s a v) (memWrite_d s a v) (memWrite_e s a v)
    (memWrite_h s a v) (memWrite_l s a v) r

/-- A mapped write leaves the control state alone. -/
theorem controlKept_memWrite (s : State) (a : Word) (v : Byte) : ControlKept s (s.memWrite a v) :=
  ⟨memWrite_halted s a v, memWrite_stopped s a v, memWrite_fault s a v, memWrite_ime s a v, memWrite_imeDelay s a v⟩

/-- Settles O19: the frame of every mapped write, of memory and of the CPU. -/
theorem storeLeavesOtherBytesAlone : Obligations.StoreLeavesOtherBytesAlone := fun s a v =>
  ⟨storesOnlyAt_memWrite s a v, regsKept_memWrite s a v, controlKept_memWrite s a v, memWrite_flags s a v, memWrite_sp s a v,
    memWrite_pc s a v⟩

/-- A write above the cartridge window, at no register of the I/O region, touches only what has its place in the backing
array. -/
theorem homeOf_eq_of_touches {m : AddressMap} {a y : Word} (ha : 0x8000 ≤ a.toNat)
    (hr : ∀ r : IoReg, r ≠ .IE → a.toNat ≠ m.addr r) (h : Touches m a y) : homeOf y.toNat = homeOf a.toNat := by
  have ca := homeOf_cases a.toNat
  have cy := homeOf_cases y.toNat
  obtain ⟨-, rfl⟩ | ⟨h1, h2, e⟩ | ⟨h1, h2, e⟩ | ⟨e, -⟩ | ⟨e, -⟩ | ⟨e, -⟩ | ⟨e, -⟩ | ⟨-, h2, -⟩ := h
  · rfl
  · omega
  · omega
  · exact absurd e (hr .DIVLO (by decide))
  · exact absurd e (hr .DIV (by decide))
  · exact absurd e (hr .DMA (by decide))
  · exact absurd e (hr .BOOTOFF (by decide))
  · omega

/-! ### The mirror (R65) -/

section Mirror
variable (m : AddressMap) {a : Word}

theorem homeOf_of_not_echo {x : Nat} (h : ¬ (0xE000 ≤ x ∧ x ≤ 0xFDFF)) : homeOf x = x := by
  obtain ⟨h1, h2, -⟩ | ⟨-, e⟩ := homeOf_cases x
  · exact absurd ⟨h1, h2⟩ h
  · exact e

/-- Neither the mirror nor the working RAM it shows lies in the unusable region or in the I/O region. -/
theorem plain_of_echo_or_shown (h : (0xE000 ≤ a.toNat ∧ a.toNat ≤ 0xFDFF) ∨ (0xC000 ≤ a.toNat ∧ a.toNat ≤ 0xDDFF)) :
    Plain m a := by
  refine (plain_iff m a).2 ⟨by omega, Bool.eq_false_iff.2 fun hu => ?_, Bool.eq_false_iff.2 fun hi => ?_⟩
  · have := map_unusable m hu
    omega
  · have := map_io m hi
    omega

/-- The address 0x2000 below one of the mirror. -/
theorem echo_sub_toNat (h1 : 0xE000 ≤ a.toNat) : (a - 0x2000).toNat = a.toNat - 0x2000 :=
  BitVec.toNat_sub_of_le (BitVec.le_def.2 (Nat.le_trans (by decide) h1))

/-- An address of the mirror has the place of the address 0x2000 lower. -/
theorem homeOf_echo (h1 : 0xE000 ≤ a.toNat) (h2 : a.toNat ≤ 0xFDFF) : homeOf a.toNat = homeOf (a - 0x2000).toNat := by
  have ca := homeOf_cases a.toNat
  rw [echo_sub_toNat h1, homeOf_of_not_echo (x := a.toNat - 0x2000) (by omega)]
  omega

end Mirror

/-- A plain address reads its place in the backing array. -/
theorem memRead_of_plain (s : State) {a : Word} (h : Plain s.params.map a) : s.memRead a = s.rawGet (homeOf a.toNat) := by
  obtain ⟨h0, h1, -⟩ := (plain_iff _ a).1 h
  exact memRead_plain s a h0 h1

/-- A write at a plain address is a raw write of its place. -/
theorem memWrite_of_plain (s : State) {a : Word} (v : Byte) (h : Plain s.params.map a) :
    s.memWrite a v = s.rawSet (homeOf a.toNat) v := by
  obtain ⟨h0, h1, h2⟩ := (plain_iff _ a).1 h
  exact memWrite_plain s a v h0 h1 h2

/-- A byte stored at a plain address reads back. -/
theorem memRead_memWrite_of_plain (s : State) {a : Word} (v : Byte) (h : Plain s.params.map a) :
    (s.memWrite a v).memRead a = v := by
  obtain ⟨h0, h1, h2⟩ := (plain_iff _ a).1 h
  exact memRead_memWrite_plain s a v h0 h1 h2

/-- Working RAM at 0xDE00 and above is shown nowhere else. -/
theorem memRead_memWrite_unmirrored (s : State) {w y : Word} (v : Byte) (h1 : 0xDE00 ≤ w.toNat) (h2 : w.toNat ≤ 0xDFFF)
    (hne : y ≠ w) : (s.memWrite w v).memRead y = s.memRead y := by
  refine memRead_memWrite_other s w y v fun h => hne (BitVec.eq_of_toNat_eq ?_)
  have no_register : ∀ r : IoReg, r ≠ .IE → w.toNat ≠ s.params.map.addr r := fun r _ => by
    have := map_addr_range s.params.map r
    omega
  have home := homeOf_eq_of_touches (by omega) no_register h
  rw [homeOf_of_not_echo (x := w.toNat) (by omega)] at home
  have cy := homeOf_cases y.toNat
  omega

/-- Settles O20: an address of the mirror and the one 0x2000 lower are plain and have one place in the backing array. -/
theorem echoMirrorsWorkingRam : Obligations.EchoMirrorsWorkingRam := by
  intro s a v h1 h2
  have shown : 0xC000 ≤ (a - 0x2000).toNat ∧ (a - 0x2000).toNat ≤ 0xDDFF := by
    rw [echo_sub_toNat h1]
    omega
  have plain : ∀ t : State, Plain t.params.map a ∧ Plain t.params.map (a - 0x2000) := fun t =>
    ⟨plain_of_echo_or_shown _ (.inl ⟨h1, h2⟩), plain_of_echo_or_shown _ (.inr shown)⟩
  have reads : ∀ t : State, t.memRead a = t.memRead (a - 0x2000) := fun t => by
    rw [memRead_of_plain t (plain t).1, memRead_of_plain t (plain t).2, homeOf_echo h1 h2]
  have writes : s.memWrite a v = s.memWrite (a - 0x2000) v := by
    rw [memWrite_of_plain s v (plain s).1, memWrite_of_plain s v (plain s).2, homeOf_echo h1 h2]
  have back : (s.memWrite (a - 0x2000) v).memRead (a - 0x2000) = v := memRead_memWrite_of_plain s v (plain s).2
  exact ⟨reads s, writes, shown.1, shown.2, writes ▸ back, (reads _).trans back,
    fun w y hw1 hw2 hne => memRead_memWrite_unmirrored s v hw1 hw2 hne⟩

/-! ### The cartridge window (R81, R82, R83) -/

/-- The selected bank in numbers. -/
theorem bankOf_toNat (v : Byte) : (bankOf v).toNat = if v.toNat % 32 = 0 then 1 else v.toNat % 32 := by
  have low : (v.extractLsb' 0 5).toNat = v.toNat % 32 := by simp [BitVec.extractLsb'_toNat]
  have zero : v.extractLsb' 0 5 = 0 ↔ v.toNat % 32 = 0 := by
    rw [BitVec.toNat_eq, low]
    rfl
  unfold bankOf
  simp only [zero]
  split
  · rfl
  · exact low

section Window
variable (s : State) {a : Word}

/-- A write below 0x8000 goes to the cartridge port. -/
theorem memWrite_low (v : Byte) (h : a.toNat ≤ 0x7FFF) : s.memWrite a v = s.cartWrite a.toNat v :=
  writeAt_low s _ v (Nat.lt_succ_of_le h)

/-- The port sets the bank register, perhaps to what it was. -/
theorem cartWrite_eq_setCartBank (x : Nat) (v : Byte) : s.cartWrite x v = s.setCartBank (s.cartWrite x v).cartBank := by
  unfold State.cartWrite
  split
  · rfl
  · rfl

theorem cartWrite_selects {x : Nat} (v : Byte) (hb : s.romByte 0x0147 ≠ 0) (h1 : 0x2000 ≤ x) (h2 : x ≤ 0x3FFF) :
    s.cartWrite x v = s.setCartBank (bankOf v) :=
  if_pos ⟨decide_eq_true hb, h1, h2⟩

theorem cartWrite_ignored {x : Nat} (v : Byte) (h : s.romByte 0x0147 = 0 ∨ x < 0x2000 ∨ 0x3FFF < x) :
    s.cartWrite x v = s := by
  refine if_neg fun ⟨hb, h1, h2⟩ => ?_
  obtain e | e | e := h
  · exact of_decide_eq_true hb e
  · omega
  · omega

/-- Where the overlay does not stand, the window is the cartridge's. -/
theorem memRead_cartridge (h : a.toNat ≤ 0x7FFF) (ho : 0x0100 ≤ a.toNat ∨ s.bootActive = false) :
    s.memRead a = s.romByte (s.cartIndex a.toNat) := by
  have no_overlay : ¬ (a.toNat ≤ Config.bootLast ∧ s.bootActive = true) := fun ⟨hl, hon⟩ => by
    obtain e | e := ho
    · exact absurd (Nat.le_trans e hl) (by decide)
    · exact Bool.false_ne_true (e.symm.trans hon)
  unfold State.memRead State.readAt
  rw [if_neg no_overlay, if_pos (show a.toNat ≤ Config.romLast from h)]
  rfl

theorem memRead_overlay (h : a.toNat ≤ 0x00FF) (hon : s.bootActive = true) : s.memRead a = s.bootByte a.toNat :=
  if_pos ⟨h, hon⟩

theorem cartIndex_fixed {x : Nat} (h : x ≤ 0x3FFF) : s.cartIndex x = x := if_pos h

theorem cartIndex_banked {x : Nat} (h : 0x4000 ≤ x) : s.cartIndex x = s.cartBank.toNat * 0x4000 + (x - 0x4000) :=
  if_neg (Nat.not_le_of_lt h)

theorem bootByte_supplied {x : Nat} {w : Byte} (h : Sparse.find s.boot x = some w) : s.bootByte x = w := by
  unfold State.bootByte
  rw [h]

end Window

/-- Settles O22, by what the cartridge port does with a write and which byte a read of the window is. -/
theorem cartridgeWindowBanks : Obligations.CartridgeWindowBanks := by
  intro s a v h
  rw [memWrite_low s v h]
  refine ⟨cartWrite_eq_setCartBank s _ v, fun hb h1 h2 => ?_, fun hi => ?_, fun ho h1 => ?_, fun h1 hon => ?_, fun h1 => ?_⟩
  · rw [cartWrite_selects s v hb h1 h2]
    exact bankOf_toNat v
  · rw [cartWrite_ignored s v hi]
  · rw [memRead_cartridge s h ho, cartIndex_fixed s h1]
  · exact ⟨memRead_overlay s h1 hon, fun w hw => (memRead_overlay s h1 hon).trans (bootByte_supplied s hw)⟩
  · rw [memRead_cartridge s h (.inl (by omega)), cartIndex_banked s h1]

/-! ### POP after PUSH (R165, R167) -/

/-- A plain address is no register of the I/O region. -/
theorem ne_addr_of_plain {m : AddressMap} {a : Word} (h : Plain m a) {r : IoReg} (hr : r ≠ .IE) : a.toNat ≠ m.addr r :=
  fun e => by
    obtain ⟨-, -, hi⟩ := (plain_iff m a).1 h
    exact Bool.false_ne_true (hi.symm.trans (e ▸ map_addr_io m r hr))

/-- A write at a plain address does not touch the address after it: their places differ. -/
theorem not_touches_next {m : AddressMap} {a : Word} (h : Plain m a) : ¬ Touches m a (a + 1) := fun ht => by
  have home := homeOf_eq_of_touches h.1 (fun r hr => ne_addr_of_plain h hr) ht
  have next : (a + 1).toNat = (a.toNat + 1) % 65536 := BitVec.toNat_add a 1
  have ca := homeOf_cases a.toNat
  have cn := homeOf_cases (a + 1).toNat
  have low := h.1
  omega

/-- With the two bytes below `SP` in plain storage, a pushed word is on the top of the stack. -/
theorem stackTop_push16 (s : State) (v : Word) (h1 : Plain s.params.map (s.sp - 1)) (h2 : Plain s.params.map (s.sp - 2)) :
    (s.push16 v).stackTop = v := by
  have next : s.sp - 2 + 1 = s.sp - 1 := by bv_omega
  have untouched : ¬ Touches s.params.map (s.sp - 2) (s.sp - 1) := next ▸ not_touches_next h2
  have high : (s.push16 v).memRead (s.sp - 1) = hiByte v := by
    rw [push16_writes, setSp_memRead, memRead_memWrite_other _ _ _ _ (by rwa [memWrite_params]),
      memRead_memWrite_of_plain s _ h1]
  have low : (s.push16 v).memRead (s.sp - 2) = loByte v := by
    rw [push16_writes, setSp_memRead]
    exact memRead_memWrite_of_plain _ _ (by rwa [memWrite_params])
  rw [State.stackTop, push16_sp, next, high, low, joinBytes_hi_lo]

/-- Settles O34: the pushed word is on the top of the stack, which POP takes. -/
theorem popAfterPushRestores : Obligations.PopAfterPushRestores := by
  intro s t u p q h1 h2 hpush hpop
  obtain rfl : s.pushPair p = t := Host.Outcome.next.inj ((exec_rowPush p s).symm.trans hpush)
  obtain ⟨w, hw, hpair, -, hsp, -⟩ := completes_pop (s.pushPair p) q
  obtain rfl : w = u := Host.Outcome.next.inj (hw.symm.trans hpop)
  have sp_below : (s.pushPair p).sp = s.sp - 2 := push16_sp s (s.getPair p)
  refine ⟨hpair.trans (stackTop_push16 s (s.getPair p) h1 h2), ?_⟩
  rw [hsp, sp_below]
  exact BitVec.sub_add_cancel s.sp 2

/-! ### Every instruction completes (R62, R117, R301) -/

/-- Every instruction but an undefined opcode leaves the fault latch alone. -/
theorem exec_fault {i : Instr} {s t : State} (hu : ∀ op, i ≠ .undefined op) (h : exec i s = .next t) :
    t.fault = s.fault := by
  cases hi : writesControl i
  · obtain ⟨-, -, hf, -⟩ := controlKept_exec hi h
    exact hf
  · obtain rfl | rfl | rfl | rfl | ⟨p, rfl⟩ | ⟨op, rfl⟩ := writesControl_cases hi
    · obtain rfl : s.enableInterrupts = t := Host.Outcome.next.inj h
      unfold State.enableInterrupts
      split <;> rfl
    · obtain rfl : s.disableInterrupts = t := Host.Outcome.next.inj h
      rfl
    · obtain rfl : s.reti = t := Host.Outcome.next.inj h
      rfl
    · obtain rfl : s.halt = t := Host.Outcome.next.inj h
      rfl
    · obtain rfl : s.stop = t := Host.Outcome.next.inj h
      rfl
    · exact absurd rfl (hu op)

/-- Settles O10: every row has a form, which answers a next state and reports the row's cost. -/
theorem everyInstructionCompletes : Obligations.EveryInstructionCompletes := fun i s =>
  ⟨_, exec_form i s, fun hu => exec_fault hu (exec_form i s), fun ho => exec_cost i s _ ho (exec_form i s)⟩

/-! ### The display's frame (R79, R350) -/

section DisplayFrame
variable {s t u : State}

theorem displayOnly_trans (h1 : DisplayOnly s t) (h2 : DisplayOnly t u) : DisplayOnly s u := by
  obtain ⟨r1, ⟨k1, k2, k3, k4, k5⟩, a1, a2, a3, a4, a5, a6, a7, a8, a9, a10, a11, w1⟩ := h1
  obtain ⟨r2, ⟨l1, l2, l3, l4, l5⟩, b1, b2, b3, b4, b5, b6, b7, b8, b9, b10, b11, w2⟩ := h2
  rw [a5] at w2
  exact ⟨fun r hr => (r2 r hr).trans (r1 r hr),
    ⟨l1.trans k1, l2.trans k2, l3.trans k3, l4.trans k4, l5.trans k5⟩, b1.trans a1, b2.trans a2, b3.trans a3, b4.trans a4,
    b5.trans a5, b6.trans a6, b7.trans a7, b8.trans a8, b9.trans a9, b10.trans a10, b11.trans a11,
    fun x h1 h2 h3 => (w2 x h1 h2 h3).trans (w1 x h1 h2 h3)⟩

variable (s)

theorem displayOnly_refl : DisplayOnly s s :=
  ⟨fun _ _ => rfl, ⟨rfl, rfl, rfl, rfl, rfl⟩, rfl, rfl, rfl, rfl, rfl, rfl, rfl, rfl, rfl, rfl, rfl, fun _ _ _ _ => rfl⟩

theorem displayOnly_setLcdMode (m : LcdMode) : DisplayOnly s (s.setLcdMode m) := displayOnly_refl s

/-- Of the registers the display writes STAT, LY and IF. -/
theorem displayOnly_ioSet {r : IoReg} (v : Byte) (h : r = .STAT ∨ r = .LY ∨ r = .IF) : DisplayOnly s (s.ioSet r v) := by
  refine ⟨fun _ _ => rfl, ⟨rfl, rfl, rfl, rfl, rfl⟩, rfl, rfl, rfl, rfl, rfl, rfl, rfl, rfl, rfl, rfl, rfl,
    fun x h1 h2 h3 => rawGet_ioSet_other s r x v ?_⟩
  obtain rfl | rfl | rfl := h
  · exact h1
  · exact h2
  · exact h3

theorem displayOnly_requestLcd (k : Nat) : DisplayOnly s (s.requestLcd k) := by
  obtain e | ⟨v, e⟩ := requestLcd_cases s k
  · rw [e]
    exact displayOnly_refl s
  · rw [e]
    exact displayOnly_ioSet s v (.inr (.inr rfl))

theorem displayOnly_enterMode (m : LcdMode) : DisplayOnly s (s.enterMode m) :=
  displayOnly_trans (displayOnly_setLcdMode s m) (displayOnly_ioSet _ _ (.inl rfl))

/-! ### What a request and a change of mode write -/

/-- A request leaves the pictures and their flag alone. -/
theorem requestLcd_pictures (k : Nat) :
    (s.requestLcd k).back = s.back ∧ (s.requestLcd k).frame = s.frame ∧ (s.requestLcd k).frameReady = s.frameReady := by
  obtain e | ⟨v, e⟩ := requestLcd_cases s k
  · rw [e]
    exact ⟨rfl, rfl, rfl⟩
  · rw [e]
    exact ⟨rfl, rfl, rfl⟩

theorem statBecomes_enterMode (m : LcdMode) :
    StatBecomes s (s.enterMode m) m.code.toNat ((s.ioGet .STAT).getLsbD 2) := by
  obtain ⟨code, others⟩ := enterMode_STAT s m
  exact ⟨code, others 2 (Nat.le_refl 2), fun k hk => others k (Nat.le_of_succ_le hk)⟩

theorem statBecomes_requestLcd {code : Nat} {same : Bool} (k : Nat) (h : StatBecomes s t code same) :
    StatBecomes s (t.requestLcd k) code same := by
  unfold StatBecomes
  rw [requestLcd_ioGet t k .STAT (by decide)]
  exact h

theorem requests_enterMode (m : LcdMode) : Requests s (s.enterMode m) false false := fun k => by
  rw [enterMode_ioGet s m .IF (by decide)]
  simp

/-- The mode is entered, then the request made if STAT's bit enables it. -/
theorem requests_enterMode_requestLcd (m : LcdMode) {k : Nat} (hk : 2 ≤ k) :
    Requests s ((s.enterMode m).requestLcd k) ((s.ioGet .STAT).getLsbD k) false := fun j => by
  obtain ⟨-, others⟩ := enterMode_STAT s m
  rw [requestLcd_IF, enterMode_ioGet s m .IF (by decide), others k hk]
  simp

/-! ### The advance (R351) -/

variable (n : Nat)

theorem displayAdvance_below (h : s.lcdAcc + n < s.lcdMode.budget) : s.displayAdvance n = s.setLcdAcc (s.lcdAcc + n) :=
  if_neg (Nat.not_le_of_lt h)

theorem displayAdvance_reached {m : LcdMode} (hm : s.lcdMode = m) (h : m.budget ≤ s.lcdAcc + n) :
    s.displayAdvance n = (s.setLcdAcc ((s.lcdAcc + n) % m.budget)).leaveMode := by
  subst hm
  exact if_pos h

/-- The end of OamScan is the entry to PixelTransfer (R352). -/
theorem leaveMode_oamScan (h : s.lcdMode = .oamScan) : s.leaveMode = s.enterMode .pixelTransfer := by
  unfold State.leaveMode
  rw [h]

/-- The end of PixelTransfer is the entry to HBlank and its request (R353). -/
theorem leaveMode_pixelTransfer (h : s.lcdMode = .pixelTransfer) : s.leaveMode = (s.enterMode .hBlank).requestLcd 3 := by
  unfold State.leaveMode
  rw [h]

theorem displayAdvance_oamScan (hm : s.lcdMode = .oamScan) (h : 80 ≤ s.lcdAcc + n) :
    s.displayAdvance n = (s.setLcdAcc ((s.lcdAcc + n) % 80)).enterMode .pixelTransfer :=
  (displayAdvance_reached s n hm h).trans (leaveMode_oamScan (s.setLcdAcc ((s.lcdAcc + n) % 80)) hm)

theorem displayAdvance_pixelTransfer (hm : s.lcdMode = .pixelTransfer) (h : 172 ≤ s.lcdAcc + n) :
    s.displayAdvance n = ((s.setLcdAcc ((s.lcdAcc + n) % 172)).enterMode .hBlank).requestLcd 3 :=
  (displayAdvance_reached s n hm h).trans (leaveMode_pixelTransfer (s.setLcdAcc ((s.lcdAcc + n) % 172)) hm)

end DisplayFrame

/-- Settles O54: below the budget the advance sets the accumulator, and each early mode's end is an entry to the next. -/
theorem displayBudgetsAndEarlyModes : Obligations.DisplayBudgetsAndEarlyModes := by
  intro s n
  refine ⟨fun h => displayAdvance_below s n ?_, fun hm h => ?_, fun hm h => ?_⟩
  · revert h
    cases s.lcdMode <;> exact id
  · rw [displayAdvance_oamScan s n hm h]
    generalize (s.lcdAcc + n) % 80 = r
    exact ⟨rfl, rfl, statBecomes_enterMode (s.setLcdAcc r) .pixelTransfer,
      requests_enterMode (s.setLcdAcc r) .pixelTransfer,
      enterMode_ioGet (s.setLcdAcc r) .pixelTransfer .LY (by decide),
      displayOnly_enterMode (s.setLcdAcc r) .pixelTransfer, rfl, rfl, rfl⟩
  · rw [displayAdvance_pixelTransfer s n hm h]
    generalize (s.lcdAcc + n) % 172 = r
    exact ⟨requestLcd_lcdMode _ 3, requestLcd_lcdAcc _ 3,
      statBecomes_requestLcd s 3 (statBecomes_enterMode (s.setLcdAcc r) .hBlank),
      requests_enterMode_requestLcd (s.setLcdAcc r) .hBlank (by decide),
      (requestLcd_ioGet _ 3 .LY (by decide)).trans (enterMode_ioGet (s.setLcdAcc r) .hBlank .LY (by decide)),
      displayOnly_trans (displayOnly_enterMode (s.setLcdAcc r) .hBlank) (displayOnly_requestLcd _ 3),
      requestLcd_pictures ((s.setLcdAcc r).enterMode .hBlank) 3⟩

end Machine
end Sys2Proof
end

section
/-! The encoding (R101 to R115): what the decoder reads are the bytes that the encoder writes, and the other way round;
and with it the statements about the decoder. -/

namespace Sys2Proof
namespace Machine

open Stated

/-! ### Lengths and opcode bytes -/

theorem length_le_three (i : Instr) : i.length ≤ 3 := by
  cases i <;> exact Nat.le_of_ble_eq_true rfl

/-- An instruction has as many bytes as its length says (R100). -/
theorem encode_length (i : Instr) : (encode i).length = i.length := by
  cases i <;> rfl

/-- The opcode byte with the fields `x`, `y` and `z` (R102). -/
def opcodeOf (x : Nat) (y z : Octal) : Byte := BitVec.ofNat 8 (64 * x + 8 * y.toNat + z.toNat)

theorem octalOf_toNat (k : Nat) : (octalOf k).toNat = k % 8 := by
  have hk : k % 8 < 8 := Nat.mod_lt k (by decide)
  unfold octalOf
  generalize k % 8 = m at hk
  interval_cases m <;> rfl

/-- A byte is the opcode byte with its own fields. -/
theorem opcodeOf_fields (b : Byte) : opcodeOf (fieldX b) (fieldY b) (fieldZ b) = b := by
  have hb := b.isLt
  apply BitVec.eq_of_toNat_eq
  simp only [opcodeOf, fieldX, fieldY, fieldZ, octalOf_toNat, BitVec.toNat_ofNat]
  omega

/-! ### From bytes to an instruction and back -/

/-- `i` is well formed, and its bytes are the first ones of the three, as many as its length says. -/
def EncodesTo (i : Instr) (b0 b1 b2 : Byte) : Prop :=
  i.wellFormed = true ∧ encode i = [b0, b1, b2].take i.length

section Primary
variable (y z : Octal) (nn : Word)

theorem encodesTo_decodeX0 :
    EncodesTo (decodeX0 y z (loByte nn) nn) (opcodeOf 0 y z) (loByte nn) (hiByte nn) := by
  cases y <;> cases z <;> exact ⟨rfl, rfl⟩

theorem encodesTo_decodeX1 : EncodesTo (decodeX1 y z) (opcodeOf 1 y z) (loByte nn) (hiByte nn) := by
  cases y <;> cases z <;> exact ⟨rfl, rfl⟩

theorem encodesTo_decodeX2 : EncodesTo (decodeX2 y z) (opcodeOf 2 y z) (loByte nn) (hiByte nn) := by
  cases y <;> cases z <;> exact ⟨rfl, rfl⟩

/-- The quadrant `x = 11`, but for the opcode byte 0xCB, which alone stands for no instruction (R295). -/
theorem encodesTo_decodeX3 (h : ¬ (y = .o1 ∧ z = .o3)) :
    EncodesTo (decodeX3 y z (opcodeOf 3 y z) (loByte nn) nn) (opcodeOf 3 y z) (loByte nn) (hiByte nn) := by
  cases y <;> cases z
  case o1.o3 => exact absurd ⟨rfl, rfl⟩ h
  all_goals exact ⟨rfl, rfl⟩

/-- The primary page: one quadrant for each value of the field `x` (R112). -/
theorem encodesTo_decodePrimary (b0 : Byte) (h : b0 ≠ 0xCB) :
    EncodesTo (decodePrimary b0 (loByte nn) (hiByte nn)) b0 (loByte nn) (hiByte nn) := by
  have hp := prefix_fields b0 h
  have hb := opcodeOf_fields b0
  have hx : fieldX b0 = 0 ∨ fieldX b0 = 1 ∨ fieldX b0 = 2 ∨ fieldX b0 = 3 := by
    have := fieldX_lt b0
    omega
  have hn : hiByte nn ++ loByte nn = nn := joinBytes_hi_lo nn
  unfold decodePrimary
  rw [hn]
  rcases hx with hx | hx | hx | hx <;> rw [hx] at hb hp ⊢
  · have h0 := encodesTo_decodeX0 (fieldY b0) (fieldZ b0) nn
    rwa [hb] at h0
  · have h1 := encodesTo_decodeX1 (fieldY b0) (fieldZ b0) nn
    rwa [hb] at h1
  · have h2 := encodesTo_decodeX2 (fieldY b0) (fieldZ b0) nn
    rwa [hb] at h2
  · have h3 := encodesTo_decodeX3 (fieldY b0) (fieldZ b0) nn (fun e => hp ⟨rfl, e⟩)
    rwa [hb] at h3

end Primary

/-- The extended page: all 256 second bytes (R113). -/
theorem encode_decodeExtended (b1 : Byte) :
    (decodeExtended b1).wellFormed = true ∧ encode (decodeExtended b1) = [0xCB, b1] := by
  revert b1
  decide +kernel

/-- Any three bytes decode to a well-formed instruction that has the first ones of them as its bytes. -/
theorem encodesTo_decodeBytes (b0 b1 b2 : Byte) : EncodesTo (decodeBytes b0 b1 b2) b0 b1 b2 := by
  by_cases h : b0 = 0xCB
  · obtain ⟨hw, he⟩ := encode_decodeExtended b1
    have hd : decodeBytes b0 b1 b2 = decodeExtended b1 := if_pos h
    rw [hd, EncodesTo, length_decodeExtended, h]
    exact ⟨hw, he⟩
  · rw [decodeBytes_primary b1 b2 h]
    have hp := encodesTo_decodePrimary (joinBytes b2 b1) b0 h
    rwa [loByte_joinBytes, hiByte_joinBytes] at hp

/-- Settles O2: page by page, and the primary page quadrant by quadrant, the decoder's row has the bytes it was read
from. -/
theorem encodeOfDecodeReturnsTheBytes : Obligations.EncodeOfDecodeReturnsTheBytes := by
  intro b0 b1 b2
  obtain ⟨hw, he⟩ := encodesTo_decodeBytes b0 b1 b2
  exact ⟨hw, he, length_pos _, length_le_three _⟩

/-! ### From an instruction to bytes and back -/

/-- Three bytes that begin with the bytes of a well-formed instruction decode to it. -/
theorem decodeBytes_of_encodesTo {i : Instr} {b0 b1 b2 : Byte} (h : EncodesTo i b0 b1 b2) : decodeBytes b0 b1 b2 = i := by
  obtain ⟨hw, he⟩ := h
  cases i with
  | prefixCB => cases hw
  | undefined op =>
    have hop : op ∈ Config.undefinedOpcodes := List.contains_iff_mem.1 hw
    have hne : op ≠ 0xCB := fun e => absurd (e ▸ hop) (by decide)
    cases he
    exact (decodeBytes_primary _ _ hne).trans (decodePrimary_undefined _ _ hop)
  | ld_BC_nn nn | ld_mnn_SP nn | ld_DE_nn nn | ld_HL_nn nn | ld_SP_nn nn | jp_NZ_nn nn | jp_nn nn | call_NZ_nn nn
  | jp_Z_nn nn | call_Z_nn nn | call_nn nn | jp_NC_nn nn | call_NC_nn nn | jp_C_nn nn | call_C_nn nn | ld_mnn_A nn
  | ld_A_mnn nn =>
    cases he
    conv_rhs => rw [← joinBytes_hi_lo nn]
    rfl
  | _ =>
    cases he
    rfl

/-- The decoder gives the one instruction with whose bytes the three begin. -/
theorem decodeBytes_eq_iff {i : Instr} {b0 b1 b2 : Byte} : decodeBytes b0 b1 b2 = i ↔ EncodesTo i b0 b1 b2 :=
  ⟨fun h => h ▸ encodesTo_decodeBytes b0 b1 b2, decodeBytes_of_encodesTo⟩

/-- The three bytes of a list that the decoder looks at, 0 for a missing one, agree with the list as far as it reaches. -/
theorem take_threeBytes (b0 : Byte) (tl : List Byte) {n : Nat} (hn : n ≤ 3) (hl : n ≤ (b0 :: tl).length) :
    [b0, tl.getD 0 0, tl.getD 1 0].take n = (b0 :: tl).take n := by
  rcases tl with _ | ⟨x, _ | ⟨y, tl⟩⟩
  · have h1 : n ≤ 1 := hl
    interval_cases n <;> rfl
  · have h2 : n ≤ 2 := hl
    interval_cases n <;> rfl
  · interval_cases n <;> rfl

/-- A list of bytes long enough for the instruction at its start is decoded to it. -/
theorem decode_of_decodeBytes {b0 : Byte} {tl : List Byte} {i : Instr}
    (hi : decodeBytes b0 (tl.getD 0 0) (tl.getD 1 0) = i) (hl : i.length ≤ (b0 :: tl).length) :
    decode (b0 :: tl) = .ok (i, (b0 :: tl).drop i.length) := by
  have hp : ¬ (b0 = 0xCB ∧ tl = []) := by
    rintro ⟨rfl, rfl⟩
    have h2 : i.length = 2 := hi ▸ length_decodeExtended 0
    rw [h2] at hl
    exact absurd hl (by decide)
  subst hi
  exact (if_neg hp).trans (if_neg (Nat.not_lt.2 hl))

/-- Settles O1: the bytes the decoder looks at begin with the instruction's, and it drops as many as the length says. -/
theorem decodeOfEncodeReturnsTheInstruction : Obligations.DecodeOfEncodeReturnsTheInstruction := by
  intro i rest hw
  have hlen := encode_length i
  have hpos := length_pos i
  have hle : i.length ≤ (encode i ++ rest).length := by
    rw [List.length_append]
    omega
  have htake : (encode i ++ rest).take i.length = encode i := List.take_left' hlen
  have hdrop : (encode i ++ rest).drop i.length = rest := List.drop_left' hlen
  cases hbs : encode i ++ rest with
  | nil =>
    rw [hbs] at hle
    exact absurd (hpos.trans hle) (by decide)
  | cons b0 tl =>
    rw [hbs] at hle htake hdrop
    have he := (take_threeBytes b0 tl (length_le_three i) hle).trans htake
    rw [decode_of_decodeBytes (decodeBytes_of_encodesTo ⟨hw, he.symm⟩) hle, hdrop]

/-! ### The undefined opcodes, and words of each family -/

/-- The decoder's undefined rows are those of the eleven bytes (R114). -/
theorem decodeBytes_eq_undefined_iff (b0 b1 b2 op : Byte) :
    decodeBytes b0 b1 b2 = .undefined op ↔ b0 = op ∧ op ∈ Config.undefinedOpcodes := by
  rw [decodeBytes_eq_iff]
  constructor
  · rintro ⟨hw, he⟩
    exact ⟨(List.cons.inj he).1.symm, List.contains_iff_mem.1 hw⟩
  · rintro ⟨rfl, hm⟩
    exact ⟨List.contains_iff_mem.2 hm, rfl⟩

/-- Settles O4: an undefined row is well formed and has its own byte, and 0xCB is not one of the eleven. -/
theorem undefinedOpcodesAreExactlyEleven : Obligations.UndefinedOpcodesAreExactlyEleven := by
  refine ⟨decodeBytes_eq_undefined_iff, fun b1 b2 op h => ?_⟩
  obtain ⟨rfl, hm⟩ := (decodeBytes_eq_undefined_iff _ b1 b2 op).1 h
  exact absurd hm (by decide)

/-- Settles O3: the decoder computes the row of each word. -/
theorem specWordsDecode : Obligations.SpecWordsDecode :=
  ⟨rfl, rfl, rfl, rfl, rfl, rfl, rfl, rfl, rfl, rfl, rfl, rfl, rfl⟩

/-- Settles O51: the operation that the second byte selects is that of the row the decoder gives. -/
theorem prefixSelectsTheExtendedPage : Obligations.PrefixSelectsTheExtendedPage := by
  intro s
  have h : (formOf (decodeExtended (s.memRead s.pc))).run (s.setPc (s.pc + 1)) = s.prefixed := by
    rw [← extended_form, ← fetchByte_zero, State.prefixed]
  exact ⟨s.prefixed, rfl, (exec_form _ _).trans (congrArg _ h)⟩

end Machine
end Sys2Proof
end

section
/-! The jumps (R271 to R275): each writes `PC` and reports its cycles, and changes nothing else. -/

namespace Sys2Proof
namespace Machine

open Stated

/-- Writing `PC` and reporting a count keeps everything else. -/
theorem quiet_setPc_charge (s : State) (v : Word) (n : Nat) : Quiet [] s ((s.setPc v).charge n) :=
  ⟨fun r _ => by cases r <;> rfl, ⟨rfl, rfl, rfl, rfl, rfl⟩,
    nothingStored_of_same ⟨rfl, rfl, rfl, rfl, rfl, rfl, rfl, rfl, rfl, rfl, rfl, rfl, rfl⟩⟩

/-- A jump to the word `v` goes to every target that is `v` modulo 2^16. -/
theorem completes_jump {i : Instr} {s : State} {v : Word} {n : Nat} {target : Int}
    (e : exec i s = .next ((s.setPc v).charge n)) (hv : (v.toNat : Int) = target % 65536) :
    Completes i s fun t =>
      (t.pc.toNat : Int) = target % 65536 ∧ Quiet [] s t ∧ t.flags = s.flags ∧ t.sp = s.sp ∧ t.cycles = n :=
  ⟨_, e, hv, quiet_setPc_charge s v n, rfl, rfl, rfl⟩

theorem word_toNat_emod (v : Word) : (v.toNat : Int) = (v.toNat : Int) % 65536 := by
  have := v.isLt
  omega

theorem sext8_toNat (e : Byte) : (sext8 e).toNat = if e.toNat < 128 then e.toNat else e.toNat + 65280 := by
  have he := e.isLt
  simp only [sext8, BitVec.toNat_signExtend, BitVec.toNat_setWidth, BitVec.msb_eq_decide, decide_eq_true_eq]
  by_cases h : e.toNat < 128
  · rw [if_pos h, if_neg (by omega)]
    omega
  · rw [if_neg h, if_pos (by omega)]
    omega

/-- The target of a relative jump: the displacement is signed and the address wraps (R111, R274). -/
theorem add_sext8 (pc : Word) (e : Byte) : ((pc + sext8 e).toNat : Int) =
    (if e.toNat < 128 then (pc.toNat + e.toNat : Int) else pc.toNat + e.toNat - 256) % 65536 := by
  rw [BitVec.toNat_add, sext8_toNat]
  split <;> omega

theorem holds_iff (s : State) (c : Cond) : s.holds c = true ↔ CondHolds c s.flags := by
  cases c <;> simp [State.holds, CondHolds]

/-- Settles O46: every jump, taken or not, is a write of `PC` and a count; not taken, it is the write of the `PC` that
stands. -/
theorem jumpsGoToTheirTargets : Obligations.JumpsGoToTheirTargets := by
  intro s c nn e Goes rel
  have hrel : ((s.pc + sext8 e).toNat : Int) = rel % 65536 := add_sext8 s.pc e
  refine ⟨completes_jump rfl (word_toNat_emod nn), completes_jump rfl (word_toNat_emod _), completes_jump rfl hrel, fun hc => ?_,
    fun hc => ?_⟩
  · have hh := (holds_iff s c).2 hc
    exact ⟨completes_jump ((exec_rowJpCond c nn s).trans (congrArg _ (if_pos hh))) (word_toNat_emod nn),
      completes_jump ((exec_rowJrCond c e s).trans (congrArg _ (if_pos hh))) hrel⟩
  · have hh := mt (holds_iff s c).1 hc
    exact ⟨completes_jump (v := s.pc) ((exec_rowJpCond c nn s).trans (congrArg _ (if_neg hh))) (word_toNat_emod _),
      completes_jump (v := s.pc) ((exec_rowJrCond c e s).trans (congrArg _ (if_neg hh))) (word_toNat_emod _)⟩

end Machine
end Sys2Proof
end

section
/-! The 8-bit loads and stores (R130 to R149): a load is one register write and a count, a store is one mapped write and
a count, and the stepping forms write `HL` as well. -/

namespace Sys2Proof
namespace Machine

open Stated

/-! ### Loads of a register -/

/-- The address of the high page is the sum the rules write (R111). -/
theorem highPage_eq (n : Byte) : highPage n = 0xFF00 + n.setWidth 16 := by
  apply BitVec.eq_of_toNat_eq
  rw [highPage, joinBytes_toNat, BitVec.toNat_add, BitVec.toNat_setWidth]
  bv_omega

/-- Writing one register and reporting a count keeps everything else. -/
theorem quiet_setReg8_charge (s : State) (d : Reg8) (v : Byte) (n : Nat) : Quiet [d] s ((s.setReg8 d v).charge n) := by
  refine ⟨fun r hr => getReg8_setReg8_other s d r v (List.ne_of_not_mem_cons hr), ?_, nothingStored_of_same ?_⟩
  · simp [ControlKept]
  · cases d <;> exact ⟨rfl, rfl, rfl, rfl, rfl, rfl, rfl, rfl, rfl, rfl, rfl, rfl, rfl⟩

/-- What a load of `v` into `d` that reports `c` cycles leaves behind. -/
theorem completes_load {i : Instr} {s : State} {d : Reg8} {v : Byte} {c : Nat}
    (e : exec i s = .next ((s.setReg8 d v).charge c)) : Completes i s fun t =>
      t.getReg8 d = v ∧ Quiet [d] s t ∧ t.flags = s.flags ∧ t.sp = s.sp ∧ t.pc = s.pc ∧ t.cycles = c :=
  ⟨_, e, getReg8_setReg8_same s d v, quiet_setReg8_charge s d v c, setReg8_flags s d v, setReg8_sp s d v,
    setReg8_pc s d v, rfl⟩

/-- Settles O26: every form is the load of its byte, and its row's or its own meaning is one register write. -/
theorem registerLoads : Obligations.RegisterLoads := by
  intro s d r n nn Loads
  rw [← highPage_eq, ← highPage_eq]
  exact ⟨completes_load (exec_rowLdRegReg d r s), completes_load (exec_rowLdRegImm d n s),
    completes_load (exec_rowLdRegMem d s), completes_load rfl, completes_load rfl, completes_load rfl,
    completes_load rfl, completes_load rfl⟩

/-! ### Stores of a byte -/

/-- Where nothing is stored, bytes are stored at no address. -/
theorem storesOnlyAt_nil_of_nothingStored {s t : State} (h : NothingStored s t) : StoresOnlyAt [] s t := by
  obtain ⟨hread, -, hboot, hbank, hsample, hdisplay⟩ := h
  exact ⟨fun y _ => hread y, fun _ => hboot, fun _ => hbank, fun _ => hsample, hdisplay⟩

/-- One mapped write, and nothing stored after it, is the store of one byte. -/
theorem storesByte_of_nothingStored {s t : State} {a : Word} {v : Byte} (h : NothingStored (s.memWrite a v) t) :
    StoresByte a v s t := by
  refine ⟨?_, storesOnlyAt_append (storesOnlyAt_memWrite s a v) (storesOnlyAt_nil_of_nothingStored h)⟩
  obtain ⟨hread, hraw, hboot, hbank, hsample, -⟩ := h
  exact ⟨hread, hraw, hboot, hbank, hsample⟩

theorem nothingStored_charge (s : State) (n : Nat) : NothingStored s (s.charge n) :=
  nothingStored_of_same ⟨rfl, rfl, rfl, rfl, rfl, rfl, rfl, rfl, rfl, rfl, rfl, rfl, rfl⟩

/-- What a store of `v` at `a` that reports `c` cycles leaves behind. -/
theorem completes_store {i : Instr} {s : State} {a : Word} {v : Byte} {c : Nat}
    (e : exec i s = .next ((s.memWrite a v).charge c)) : Completes i s fun t =>
      StoresByte a v s t ∧ RegsKept [] s t ∧ ControlKept s t ∧ t.flags = s.flags ∧ t.sp = s.sp ∧ t.pc = s.pc
        ∧ t.cycles = c :=
  ⟨_, e, storesByte_of_nothingStored (nothingStored_charge _ c), regsKept_memWrite s a v, controlKept_memWrite s a v,
    memWrite_flags s a v, memWrite_sp s a v, memWrite_pc s a v, rfl⟩

/-- Settles O27: every form is one mapped write at its address. -/
theorem byteStores : Obligations.ByteStores := by
  intro s r n nn Stores
  rw [← highPage_eq, ← highPage_eq]
  exact ⟨completes_store (exec_rowLdMemReg r s), completes_store rfl, completes_store rfl, completes_store rfl,
    completes_store rfl, completes_store rfl, completes_store rfl⟩

/-! ### The forms that step `HL` -/

theorem nothingStored_setHl_charge (s : State) (hl : Word) (n : Nat) : NothingStored s ((s.setPair .HL hl).charge n) :=
  nothingStored_of_same ⟨rfl, rfl, rfl, rfl, rfl, rfl, rfl, rfl, rfl, rfl, rfl, rfl, rfl⟩

/-- After a part that keeps the CPU's other state, the step of `HL` keeps it too, and 8 cycles are reported. -/
theorem steps_setHl {s u t : State} {hl : Word} (ht : t = (u.setPair .HL hl).charge 8) (hcontrol : ControlKept s u)
    (hflags : u.flags = s.flags) (hsp : u.sp = s.sp) (hpc : u.pc = s.pc) :
    t.getPair .HL = hl ∧ ControlKept s t ∧ t.flags = s.flags ∧ t.sp = s.sp ∧ t.pc = s.pc ∧ t.cycles = 8 := by
  subst ht
  exact ⟨getPair_setPair_same u .HL hl, hcontrol, hflags, hsp, hpc, rfl⟩

/-- A store of `A` at `HL`, after which `HL` is `hl`. -/
theorem completes_storeStep {i : Instr} {s : State} {a hl : Word}
    (e : exec i s = .next (((s.memWrite a s.a).setPair .HL hl).charge 8)) : Completes i s fun t =>
      StoresByte a s.a s t ∧ RegsKept [.H, .L] s t ∧ t.getPair .HL = hl ∧ ControlKept s t ∧ t.flags = s.flags
        ∧ t.sp = s.sp ∧ t.pc = s.pc ∧ t.cycles = 8 :=
  ⟨_, e, storesByte_of_nothingStored (nothingStored_setHl_charge _ hl 8),
    fun r hr =>
      (getReg8_setPair_other (s.memWrite a s.a) .HL r hl hr).trans (regsKept_memWrite s a s.a r List.not_mem_nil),
    steps_setHl rfl (controlKept_memWrite s a s.a) (memWrite_flags s a s.a) (memWrite_sp s a s.a)
      (memWrite_pc s a s.a)⟩

/-- A load of `A` with `v`, after which `HL` is `hl`. -/
theorem completes_loadStep {i : Instr} {s : State} {v : Byte} {hl : Word}
    (e : exec i s = .next (((s.setA v).setPair .HL hl).charge 8)) : Completes i s fun t =>
      t.a = v ∧ NothingStored s t ∧ RegsKept [.A, .H, .L] s t ∧ t.getPair .HL = hl ∧ ControlKept s t
        ∧ t.flags = s.flags ∧ t.sp = s.sp ∧ t.pc = s.pc ∧ t.cycles = 8 := by
  refine ⟨_, e, rfl, nothingStored_setHl_charge (s.setA v) hl 8, fun r hr => ?_,
    steps_setHl rfl ⟨rfl, rfl, rfl, rfl, rfl⟩ rfl rfl rfl⟩
  calc ((s.setA v).setPair .HL hl).getReg8 r
    _ = (s.setReg8 .A v).getReg8 r := getReg8_setPair_other _ .HL r hl (List.not_mem_of_not_mem_cons hr)
    _ = s.getReg8 r := getReg8_setReg8_other s .A r v (List.ne_of_not_mem_cons hr)

/-- Settles O28: each form is its store or load at the old `HL`, then the write of the new one. -/
theorem steppingLoadsAndStores : Obligations.SteppingLoadsAndStores := by
  intro s Steps a
  exact ⟨completes_storeStep rfl, completes_storeStep rfl, completes_loadStep rfl, completes_loadStep rfl⟩

end Machine
end Sys2Proof
end

section
/-! The 16-bit loads and the arithmetic of `SP` (R161 to R164, R224): each is a write of a pair or of `SP`, of the flags
perhaps, and a count; `LD (nn),SP` is two mapped writes and a count. -/

namespace Sys2Proof
namespace Machine

open Stated

/-! ### Writes of a pair, of `SP`, and what may follow them -/

/-- Writing a pair keeps everything but its two registers. -/
theorem quiet_setPair (s : State) (p : Pair) (v : Word) : Quiet (pairRegs p) s (s.setPair p v) := by
  refine ⟨fun r hr => getReg8_setPair_other s p r v hr, ?_, nothingStored_of_same ?_⟩
  · simp [ControlKept]
  · simp [SameMachine]

/-- Writing `SP` keeps every register, the control state and memory. -/
theorem quiet_setSp (s : State) (v : Word) : Quiet [] s (s.setSp v) :=
  ⟨fun _ _ => rfl, ⟨rfl, rfl, rfl, rfl, rfl⟩,
    nothingStored_of_same ⟨rfl, rfl, rfl, rfl, rfl, rfl, rfl, rfl, rfl, rfl, rfl, rfl, rfl⟩⟩

section Quiet
variable {except : List Reg8} {s t : State}

/-- The flags and the count are no part of what a quiet instruction keeps. -/
theorem quiet_setFlags (h : Quiet except s t) (f : Flags) : Quiet except s (t.setFlags f) := h

theorem quiet_charge (h : Quiet except s t) (n : Nat) : Quiet except s (t.charge n) := h

end Quiet

/-! ### The 16-bit loads (R161, R163) -/

/-- What a load of `v` into a pair leaves behind. -/
theorem completes_loadPair {i : Instr} {s : State} {p : Pair} {v : Word} {c : Nat}
    (e : exec i s = .next ((s.setPair p v).charge c)) : Completes i s fun t =>
      t.getPair p = v ∧ t.sp = s.sp ∧ Quiet (pairRegs p) s t ∧ t.flags = s.flags ∧ t.pc = s.pc ∧ t.cycles = c :=
  ⟨_, e, getPair_setPair_same s p v, setPair_sp s p v, quiet_charge (quiet_setPair s p v) c, setPair_flags s p v,
    setPair_pc s p v, rfl⟩

/-- What a load of `v` into `SP` leaves behind. -/
theorem completes_loadSp {i : Instr} {s : State} {v : Word} {c : Nat} (e : exec i s = .next ((s.setSp v).charge c)) :
    Completes i s fun t => t.sp = v ∧ Quiet [] s t ∧ t.flags = s.flags ∧ t.pc = s.pc ∧ t.cycles = c :=
  ⟨_, e, rfl, quiet_charge (quiet_setSp s v) c, rfl, rfl, rfl⟩

/-- Settles O29: three loads of a pair and two of `SP`, each its one write and its count. -/
theorem wordLoads : Obligations.WordLoads := by
  intro s nn Rest
  exact ⟨completes_loadPair (p := .BC) rfl, completes_loadPair (p := .DE) rfl, completes_loadPair (p := .HL) rfl,
    completes_loadSp rfl, completes_loadSp rfl⟩

/-! ### `LD HL,SP+e` and `ADD SP,e` (R164, R224) -/

/-- The flags of both: Z and N are 0, Hf and Cf the carries out of bit 3 and bit 7 of the unsigned sum. -/
theorem spAddFlags_spec (sp : Word) (e : Byte) : (spAddFlags sp e).z = false ∧ (spAddFlags sp e).n = false
    ∧ ((spAddFlags sp e).hf = true ↔ sp.toNat % 16 + e.toNat % 16 > 15)
    ∧ ((spAddFlags sp e).cf = true ↔ sp.toNat % 256 + e.toNat > 255) :=
  ⟨rfl, rfl, decide_eq_true_iff, decide_eq_true_iff⟩

/-- Settles O30: the sum is that of a relative jump (`add_sext8`), written to `HL` or to `SP`. -/
theorem stackPointerArithmetic : Obligations.StackPointerArithmetic := by
  intro s e v FlagsOf
  have sum : ((s.sp + sext8 e).toNat : Int) = v % 65536 := add_sext8 s.sp e
  have flags : FlagsOf (spAddFlags s.sp e) := spAddFlags_spec s.sp e
  have hl : joinBytes (s.ldHlSp e).h (s.ldHlSp e).l = s.sp + sext8 e := joinBytes_hi_lo _
  constructor
  · exact ⟨s.ldHlSp e, rfl, hl ▸ sum, flags,
      quiet_charge (quiet_setFlags (quiet_setPair s .HL _) _) 12, rfl, rfl, rfl⟩
  · exact ⟨s.addSpImm e, rfl, sum, flags, quiet_charge (quiet_setFlags (quiet_setSp s _) _) 16, rfl, rfl⟩

/-! ### `LD (nn),SP` (R162) -/

section TwoWrites
variable (s : State) (a b : Word) (v w : Byte)

/-- Two mapped writes leave the registers alone. -/
theorem regsKept_memWrite_memWrite : RegsKept [] s ((s.memWrite a v).memWrite b w) := fun r hr =>
  (regsKept_memWrite (s.memWrite a v) b w r hr).trans (regsKept_memWrite s a v r hr)

/-- Two mapped writes leave the control state alone. -/
theorem controlKept_memWrite_memWrite : ControlKept s ((s.memWrite a v).memWrite b w) := by
  simp [ControlKept]

end TwoWrites

/-- Settles O31: the two writes in their order, their two frames one after the other, and the count. -/
theorem stackPointerStore : Obligations.StackPointerStore := by
  intro s nn
  rw [← hiByte_eq, ← loByte_eq]
  exact ⟨s.stSpAbs nn, rfl, ⟨fun _ => rfl, fun _ => rfl, rfl, rfl, rfl⟩,
    storesOnlyAt_append (storesOnlyAt_memWrite s nn _) (storesOnlyAt_memWrite _ (nn + 1) _),
    regsKept_memWrite_memWrite s nn (nn + 1) _ _, controlKept_memWrite_memWrite s nn (nn + 1) _ _,
    (memWrite_flags _ _ _).trans (memWrite_flags s nn _), (memWrite_sp _ _ _).trans (memWrite_sp s nn _),
    (memWrite_pc _ _ _).trans (memWrite_pc s nn _), rfl⟩

end Machine
end Sys2Proof
end

section
/-! The 8-bit arithmetic and logic (R175 to R207): each operation writes one register or one byte, the flags and a count.
The value and the flags are said once for each shared operation, in numbers. -/

namespace Sys2Proof
namespace Machine

open Stated

/-! ### What the operations keep -/

/-- The same state is a quiet one. -/
theorem quiet_refl (s : State) : Quiet [] s s := quiet_setSp s s.sp

/-- A register, the flags and a count: the other registers, `SP`, `PC`, the control state and memory are kept. -/
theorem frame_setReg8_setFlags {s t : State} {d : Reg8} {v : Byte} {f : Flags} {n : Nat}
    (ht : t = ((s.setReg8 d v).setFlags f).charge n) :
    Quiet [d] s t ∧ t.sp = s.sp ∧ t.pc = s.pc ∧ t.cycles = n := by
  subst ht
  exact ⟨quiet_setReg8_charge s d v n, setReg8_sp s d v, setReg8_pc s d v, rfl⟩

/-! ### The accumulator operations (R175 to R199) -/

theorem num_false : Bool.num false = 0 := rfl

/-- R175, `add8`: the sum and its flags. -/
theorem add8_spec (a b : Byte) (c : Bool) :
    (add8 a b c).1.toNat = (a.toNat + b.toNat + Bool.num c) % 256
      ∧ ((add8 a b c).2.z = true ↔ (add8 a b c).1 = 0) ∧ (add8 a b c).2.n = false
      ∧ ((add8 a b c).2.hf = true ↔ a.toNat % 16 + b.toNat % 16 + Bool.num c > 15)
      ∧ ((add8 a b c).2.cf = true ↔ a.toNat + b.toNat + Bool.num c > 255) :=
  ⟨BitVec.toNat_ofNat _ _, decide_eq_true_iff, rfl, decide_eq_true_iff, decide_eq_true_iff⟩

/-- The difference of `sub8`, which wraps. -/
theorem sub8_toNat (a b : Byte) (c : Bool) :
    (sub8 a b c).1.toNat = (a.toNat + 256 - (b.toNat + Bool.num c)) % 256 := by
  have hc : Bool.num c ≤ 1 := by cases c <;> decide
  have hb := b.isLt
  calc (sub8 a b c).1.toNat
    _ = (((a.toNat : Int) - b.toNat - Bool.num c) % 256).toNat := BitVec.toNat_ofInt _
    _ = (a.toNat + 256 - (b.toNat + Bool.num c)) % 256 := by omega

/-- R175, `sub8`: the difference and its flags. -/
theorem sub8_spec (a b : Byte) (c : Bool) :
    (sub8 a b c).1.toNat = (a.toNat + 256 - (b.toNat + Bool.num c)) % 256
      ∧ ((sub8 a b c).2.z = true ↔ (sub8 a b c).1 = 0) ∧ (sub8 a b c).2.n = true
      ∧ ((sub8 a b c).2.hf = true ↔ a.toNat % 16 < b.toNat % 16 + Bool.num c)
      ∧ ((sub8 a b c).2.cf = true ↔ a.toNat < b.toNat + Bool.num c) :=
  ⟨sub8_toNat a b c, decide_eq_true_iff, rfl, decide_eq_true_iff, decide_eq_true_iff⟩

/-- Without a borrow in, the difference is 0 exactly for equal operands. -/
theorem sub8_eq_zero_iff (a b : Byte) : (sub8 a b false).1 = 0 ↔ a = b := by
  have h : (sub8 a b false).1.toNat = (a.toNat + 256 - b.toNat) % 256 := sub8_toNat a b false
  rw [BitVec.toNat_eq, h]
  bv_omega

/-- What the shared operation leaves in `A` and the flags is what the statement says in numbers. -/
theorem aluOutcome_alu (op : AluOp) (s : State) (v : Byte) : AluOutcome op s v (s.alu op v) := by
  cases op with
  | add => exact add8_spec s.a v false
  | adc => exact add8_spec s.a v s.flags.cf
  | sub => exact sub8_spec s.a v false
  | sbc => exact sub8_spec s.a v s.flags.cf
  | cp =>
    obtain ⟨-, hz, hn, hh, hc⟩ := sub8_spec s.a v false
    exact ⟨rfl, hz.trans (sub8_eq_zero_iff s.a v), hn, hh, hc⟩
  | and => exact ⟨fun _ => BitVec.getLsbD_and, decide_eq_true_iff, rfl, rfl, rfl⟩
  | xor => exact ⟨fun _ => BitVec.getLsbD_xor, decide_eq_true_iff, rfl, rfl, rfl⟩
  | or => exact ⟨fun _ => BitVec.getLsbD_or, decide_eq_true_iff, rfl, rfl, rfl⟩

/-- An instruction that is the shared operation and a count. -/
theorem aluCompletes_of_exec {i : Instr} {op : AluOp} {s : State} {v : Byte} {n : Nat}
    (e : exec i s = .next ((s.alu op v).charge n)) : AluCompletes i op s v n :=
  ⟨_, e, aluOutcome_alu op s v, frame_setReg8_setFlags (d := .A) rfl⟩

/-- Settles O35: each row of the three operand forms is the shared operation on its operand. -/
theorem accumulatorOperations : Obligations.AccumulatorOperations := fun s op =>
  ⟨fun r => aluCompletes_of_exec (exec_rowAluReg op r s), aluCompletes_of_exec (exec_rowAluMem op s),
    fun n => aluCompletes_of_exec (exec_rowAluImm op n s)⟩

/-! ### Increments and decrements (R200 to R203) -/

/-- R200: the flags of an increment. -/
theorem incFlags_spec (old : Byte) (f : Flags) :
    ((incFlags old f).z = true ↔ old = 0xFF) ∧ (incFlags old f).n = false
      ∧ ((incFlags old f).hf = true ↔ old.toNat % 16 = 15) ∧ (incFlags old f).cf = f.cf := by
  have hz : old + 1 = 0 ↔ old = 0xFF := by bv_omega
  exact ⟨decide_eq_true_iff.trans hz, rfl, decide_eq_true_iff, rfl⟩

/-- R202: the flags of a decrement. -/
theorem decFlags_spec (old : Byte) (f : Flags) :
    ((decFlags old f).z = true ↔ old = 0x01) ∧ (decFlags old f).n = true
      ∧ ((decFlags old f).hf = true ↔ old.toNat % 16 = 0) ∧ (decFlags old f).cf = f.cf := by
  have hz : old - 1 = 0 ↔ old = 0x01 := by bv_omega
  exact ⟨decide_eq_true_iff.trans hz, rfl, decide_eq_true_iff, rfl⟩

theorem ofNat_toNat_add_one (v : Byte) : BitVec.ofNat 8 (v.toNat + 1) = v + 1 := by
  bv_omega

theorem ofNat_toNat_add_255 (v : Byte) : BitVec.ofNat 8 (v.toNat + 255) = v - 1 := by
  bv_omega

/-- One mapped write, the flags and a count: the store of that byte, and its frame. -/
theorem completes_storeFlags {i : Instr} {s : State} {a : Word} {v : Byte} {f : Flags} {n : Nat} {P : Flags → Prop}
    (e : exec i s = .next (((s.memWrite a v).setFlags f).charge n)) (hf : P f) : Completes i s fun t =>
      StoresByte a v s t ∧ P t.flags ∧ RegsKept [] s t ∧ ControlKept s t ∧ t.sp = s.sp ∧ t.pc = s.pc ∧ t.cycles = n :=
  ⟨_, e, storesByte_of_nothingStored (nothingStored_charge _ n), hf, regsKept_memWrite s a v, controlKept_memWrite s a v,
    memWrite_sp s a v, memWrite_pc s a v, rfl⟩

/-- Settles O36: the register forms write one register and the flags of the old value, the `(HL)` forms store one byte. -/
theorem byteIncrementsAndDecrements : Obligations.ByteIncrementsAndDecrements := by
  intro s IncFlags DecFlags a
  refine ⟨fun r => ?_, fun r => ?_, ?_, ?_⟩
  · refine ⟨_, exec_rowIncReg r s, ?_, incFlags_spec _ _, frame_setReg8_setFlags rfl⟩
    exact (congrArg BitVec.toNat (getReg8_setReg8_same s r _)).trans (BitVec.toNat_add _ _)
  · refine ⟨_, exec_rowDecReg r s, ?_, decFlags_spec _ _, frame_setReg8_setFlags rfl⟩
    have h : ((s.decReg r).getReg8 r) = s.getReg8 r - 1 := getReg8_setReg8_same s r _
    rw [h, ← ofNat_toNat_add_255, BitVec.toNat_ofNat]
  · rw [ofNat_toNat_add_one]
    exact completes_storeFlags rfl (incFlags_spec _ _)
  · rw [ofNat_toNat_add_255]
    exact completes_storeFlags rfl (decFlags_spec _ _)

/-! ### DAA (R204) -/

/-- Whether DAA applies 0x60: after a subtraction under Cf alone. -/
def daaAppliesHigh (a : Byte) (f : Flags) : Bool := if f.n then f.cf else daaHigh a f

/-- Whether DAA applies 0x06: after a subtraction under Hf alone. -/
def daaAppliesLow (a : Byte) (f : Flags) : Bool := if f.n then f.hf else daaLow a f

theorem correction_toNat (b : Bool) (k : Byte) : (if b then k else 0).toNat = if b then k.toNat else 0 := by
  cases b <;> rfl

section Daa
variable (a : Byte) (f : Flags)

theorem daaAppliesHigh_iff : daaAppliesHigh a f = true ↔ f.cf = true ∨ (f.n = false ∧ a.toNat > 0x99) := by
  cases hn : f.n <;> simp [daaAppliesHigh, daaHigh, hn]

theorem daaAppliesLow_iff : daaAppliesLow a f = true ↔ f.hf = true ∨ (f.n = false ∧ a.toNat % 16 > 9) := by
  cases hn : f.n <;> simp [daaAppliesLow, daaLow, hn]

theorem daa8_subtracted (hn : f.n = true) : (daa8 a f).1 =
    a - (if daaAppliesHigh a f then 0x60 else 0) - (if daaAppliesLow a f then 0x06 else 0) := by
  simp [daa8, daaAppliesHigh, daaAppliesLow, hn]

theorem daa8_added (hn : f.n = false) : (daa8 a f).1 =
    a + (if daaAppliesHigh a f then 0x60 else 0) + (if daaAppliesLow a f then 0x06 else 0) := by
  simp [daa8, daaAppliesHigh, daaAppliesLow, hn]

end Daa

/-- The accumulator after DAA, for the corrections `x` and `y`. -/
theorem daa8_toNat {a : Byte} {f : Flags} {x y : Nat} (hx : x = if daaAppliesHigh a f then 0x60 else 0)
    (hy : y = if daaAppliesLow a f then 0x06 else 0) :
    (daa8 a f).1.toNat = (if f.n then a.toNat + 512 - x - y else a.toNat + x + y) % 256 := by
  have hx8 := hx ▸ correction_toNat (daaAppliesHigh a f) 0x60
  have hy8 := hy ▸ correction_toNat (daaAppliesLow a f) 0x06
  cases hn : f.n with
  | true =>
    rw [daa8_subtracted a f hn, BitVec.toNat_sub, BitVec.toNat_sub, if_pos rfl]
    omega
  | false =>
    rw [daa8_added a f hn, BitVec.toNat_add, BitVec.toNat_add, if_neg Bool.false_ne_true]
    omega

/-- Settles O37: the corrections are fixed by the two conditions, and the flags by their definition. -/
theorem decimalAdjust : Obligations.DecimalAdjust := by
  intro s high low
  have hhigh : daaAppliesHigh s.a s.flags = true ↔ high := daaAppliesHigh_iff s.a s.flags
  have hlow : daaAppliesLow s.a s.flags = true ↔ low := daaAppliesLow_iff s.a s.flags
  refine ⟨s.decimalAdjust, rfl, fun x y hx hx0 hy hy0 => daa8_toNat ?_ ?_, decide_eq_true_iff, rfl, rfl, hhigh,
    frame_setReg8_setFlags (d := .A) rfl⟩
  · split
    case isTrue h => exact hx (hhigh.mp h)
    case isFalse h => exact hx0 (mt hhigh.mpr h)
  · split
    case isTrue h => exact hy (hlow.mp h)
    case isFalse h => exact hy0 (mt hlow.mpr h)

/-! ### DAA corrects BCD (R178, R184, R204) -/

theorem bcd_toNat {tens ones : Nat} (ht : tens < 10) (ho : ones < 10) : (bcd tens ones).toNat = 16 * tens + ones := by
  rw [bcd, BitVec.toNat_ofNat, Nat.mod_eq_of_lt (by omega)]

theorem bcd_toNat_mod {tens ones : Nat} (ht : tens < 10) (ho : ones < 10) : (bcd tens ones).toNat % 16 = ones := by
  rw [bcd_toNat ht ho]
  omega

section Digits
variable {p q r s : Nat} (hp : p < 10) (hq : q < 10) (hr : r < 10) (hs : s < 10)
include hp hq hr hs

/-- DAA after the addition of packed numbers adds them digit by digit: 0x06 is due exactly when the ones carry, and 0x60
exactly when the tens do. -/
theorem daa8_add8_bcd {t : Byte × Flags} (ht : t = add8 (bcd p q) (bcd r s) false) :
    (daa8 t.1 t.2).1 = bcd ((p + r + (q + s) / 10) % 10) ((q + s) % 10)
      ∧ ((daa8 t.1 t.2).2.cf = true ↔ 10 ≤ p + r + (q + s) / 10) := by
  obtain ⟨ha, -, hn, hh, hc⟩ := ht ▸ add8_spec (bcd p q) (bcd r s) false
  rw [bcd_toNat hp hq, bcd_toNat hr hs, num_false] at ha hc
  rw [bcd_toNat_mod hp hq, bcd_toNat_mod hr hs, num_false] at hh
  have low : daaAppliesLow t.1 t.2 = true ↔ 10 ≤ q + s := by
    rw [daaAppliesLow_iff, hh, ha, and_iff_right hn]
    omega
  have high : daaAppliesHigh t.1 t.2 = true ↔ 10 ≤ p + r + (q + s) / 10 := by
    rw [daaAppliesHigh_iff, hc, ha, and_iff_right hn]
    omega
  refine ⟨BitVec.eq_of_toNat_eq ?_, high⟩
  rw [daa8_toNat rfl rfl, bcd_toNat (Nat.mod_lt _ (by decide)) (Nat.mod_lt _ (by decide)), ha,
    if_neg (ne_true_of_eq_false hn)]
  simp only [high, low]
  split_ifs with hundred carry carry <;> omega

/-- DAA after the subtraction of packed numbers subtracts them digit by digit: 0x06 is taken away exactly when the ones
borrow, and 0x60 exactly when the tens do. -/
theorem daa8_sub8_bcd {t : Byte × Flags} (ht : t = sub8 (bcd p q) (bcd r s) false) :
    (daa8 t.1 t.2).1 = bcd ((p + 10 - r - (s + 9 - q) / 10) % 10) ((q + 10 - s) % 10)
      ∧ ((daa8 t.1 t.2).2.cf = true ↔ p < r + (s + 9 - q) / 10) := by
  obtain ⟨ha, -, hn, hh, hc⟩ := ht ▸ sub8_spec (bcd p q) (bcd r s) false
  rw [bcd_toNat hp hq, bcd_toNat hr hs, num_false] at ha hc
  rw [bcd_toNat_mod hp hq, bcd_toNat_mod hr hs, num_false] at hh
  have notAdded : t.2.n ≠ false := ne_false_of_eq_true hn
  have low : daaAppliesLow t.1 t.2 = true ↔ q < s := by
    rw [daaAppliesLow_iff, hh, or_iff_left (fun h => notAdded h.1), Nat.add_zero]
  have high : daaAppliesHigh t.1 t.2 = true ↔ p < r + (s + 9 - q) / 10 := by
    rw [daaAppliesHigh_iff, hc, or_iff_left (fun h => notAdded h.1)]
    omega
  refine ⟨BitVec.eq_of_toNat_eq ?_, high⟩
  rw [daa8_toNat rfl rfl, bcd_toNat (Nat.mod_lt _ (by decide)) (Nat.mod_lt _ (by decide)), ha, if_pos hn]
  simp only [high, low]
  split_ifs with tens ones ones <;> omega

end Digits

/-- Settles O38: the two lemmas for the digits of `x` and `y`, whose sum and difference have the digits they name. -/
theorem decimalAdjustCorrectsBcd : Obligations.DecimalAdjustCorrectsBcd := by
  intro s t u x y hx hy ha
  have hp : x / 10 < 10 := by omega
  have hq : x % 10 < 10 := Nat.mod_lt x (by decide)
  have hr : y / 10 < 10 := by omega
  have hs : y % 10 < 10 := Nat.mod_lt y (by decide)
  refine ⟨fun hadd hdaa => ?_, fun hsub hdaa => ?_⟩
  · cases hadd
    cases hdaa
    obtain ⟨hv, hc⟩ := daa8_add8_bcd hp hq hr hs (t := add8 s.a (bcd (y / 10) (y % 10)) false) (by rw [ha])
    refine ⟨hv.trans (congrArg₂ bcd ?_ ?_), hc.trans ?_⟩ <;> omega
  · cases hsub
    cases hdaa
    obtain ⟨hv, hc⟩ := daa8_sub8_bcd hp hq hr hs (t := sub8 s.a (bcd (y / 10) (y % 10)) false) (by rw [ha])
    refine ⟨hv.trans (congrArg₂ bcd ?_ ?_), hc.trans ?_⟩ <;> omega

/-! ### CPL, SCF and CCF (R205 to R207) -/

/-- Settles O39: each writes the flags it names, and CPL the accumulator's complement. -/
theorem accumulatorAndCarryFlips : Obligations.AccumulatorAndCarryFlips := by
  intro s Rest
  have rest (f : Flags) : Rest [] ((s.setFlags f).charge 4) :=
    ⟨quiet_charge (quiet_setFlags (quiet_refl s) f) 4, rfl, rfl, rfl⟩
  refine ⟨⟨s.complement, rfl, BitVec.toNat_not, rfl, frame_setReg8_setFlags (d := .A) rfl⟩, ⟨s.setCarry, rfl, rfl, rest _⟩,
    ⟨s.toggleCarry, rfl, rfl, rest _⟩, fun t u hscf hccf => ?_, rfl, rfl, rfl⟩
  cases hscf
  cases hccf
  rfl

end Machine
end Sys2Proof
end

section
/-! The 16-bit arithmetic (R221 to R223): `ADD HL,rr` is a write of `HL`, of the flags and a count; the increments and
decrements are a write of one 16-bit operand and a count. -/

namespace Sys2Proof
namespace Machine

open Stated

/-! ### `ADD HL,rr` (R221) -/

/-- The flags of the sum: Z is kept, N is 0, Hf and Cf are the carries out of bit 11 and bit 15. -/
theorem add16Flags_spec (a b : Word) (f : Flags) : (add16Flags a b f).z = f.z ∧ (add16Flags a b f).n = false
    ∧ ((add16Flags a b f).hf = true ↔ a.toNat % 4096 + b.toNat % 4096 > 4095)
    ∧ ((add16Flags a b f).cf = true ↔ a.toNat + b.toNat > 65535) :=
  ⟨rfl, rfl, decide_eq_true_iff, decide_eq_true_iff⟩

/-- Settles O40: every row writes the wrapped sum to `HL`, whose frame is that of a pair, and the flags of the sum. -/
theorem addIntoHl : Obligations.AddIntoHl := by
  intro s r
  have sum : (joinBytes (s.addHl r).h (s.addHl r).l).toNat = (s.hl.toNat + (s.getReg16 r).toNat) % 65536 :=
    (congrArg BitVec.toNat (joinBytes_hi_lo (s.hl + s.getReg16 r))).trans (BitVec.toNat_add _ _)
  obtain ⟨hz, hn, hhf, hcf⟩ := add16Flags_spec s.hl (s.getReg16 r) s.flags
  exact ⟨s.addHl r, exec_rowAddHl r s, sum, hz, hn, hhf, hcf,
    quiet_charge (quiet_setFlags (quiet_setPair s .HL _) _) 8, rfl, rfl, rfl⟩

/-! ### `INC rr` and `DEC rr` (R222, R223) -/

/-- Writing a 16-bit operand keeps the control state and memory. -/
theorem controlKept_nothingStored_setReg16 (s : State) (r : Reg16) (v : Word) :
    ControlKept s (s.setReg16 r v) ∧ NothingStored s (s.setReg16 r v) := by
  cases r with
  | BC => exact (quiet_setPair s .BC v).2
  | DE => exact (quiet_setPair s .DE v).2
  | HL => exact (quiet_setPair s .HL v).2
  | SP => exact (quiet_setSp s v).2

/-- What an instruction that writes `v` to one 16-bit operand and reports `c` cycles leaves behind. -/
theorem completes_setReg16 {i : Instr} {s : State} {r : Reg16} {v : Word} {c n : Nat}
    (e : exec i s = .next ((s.setReg16 r v).charge c)) (hv : v.toNat = n) : Completes i s fun t =>
      (t.getReg16 r).toNat = n ∧ (∀ q : Reg16, q ≠ r → t.getReg16 q = s.getReg16 q) ∧ t.a = s.a ∧ t.flags = s.flags
        ∧ ControlKept s t ∧ NothingStored s t ∧ t.pc = s.pc ∧ t.cycles = c := by
  obtain ⟨hcontrol, hstored⟩ := controlKept_nothingStored_setReg16 s r v
  have written : (s.setReg16 r v).getReg16 r = v := (getReg16_setReg16 s r r v).trans (if_pos rfl)
  have others (q : Reg16) (hq : q ≠ r) : (s.setReg16 r v).getReg16 q = s.getReg16 q :=
    (getReg16_setReg16 s r q v).trans (if_neg hq)
  exact ⟨_, e, (congrArg BitVec.toNat written).trans hv, others, setReg16_a s r v, setReg16_flags s r v, hcontrol,
    hstored, setReg16_pc s r v, rfl⟩

theorem sub_one_toNat (v : Word) : (v - 1).toNat = (v.toNat + 65535) % 65536 := by
  bv_omega

/-- Settles O41: each row is the write of its operand, one more or one less; the encodings are read off row by row. -/
theorem wordIncrementsAndDecrements : Obligations.WordIncrementsAndDecrements := by
  intro s r Rest
  refine ⟨completes_setReg16 (exec_rowIncPair r s) (BitVec.toNat_add _ _),
    completes_setReg16 (exec_rowDecPair r s) (sub_one_toNat _), ?_, ?_⟩
  · cases r <;> rfl
  · cases r <;> rfl

end Machine
end Sys2Proof
end

section
/-! The rotates, shifts and bit operations (R230 to R256): each writes one register or one byte, or the flags alone. The
byte is said bit by bit, once for each shared operation. -/

namespace Sys2Proof
namespace Machine

open Stated

/-! ### The shifted byte (R230 to R250) -/

section Bits
variable {v : Byte} {x : BitVec 1} {k : Nat} {incoming : Bool}

/-- Seven bits of `v` moved up by one, with `x` coming in at bit 0. -/
theorem getLsbD_shiftUp (hx : x[0] = incoming) (hk : k < 8) :
    (v.extractLsb' 0 7 ++ x).getLsbD k = if k = 0 then incoming else v.getLsbD (k - 1) := by
  rw [BitVec.getLsbD_append]
  by_cases h : k = 0
  · simp [h, hx]
  · have h7 : k - 1 < 7 := by omega
    simp [h, h7]

/-- Seven bits of `v` moved down by one, with `x` coming in at bit 7. -/
theorem getLsbD_shiftDown (hx : x[0] = incoming) (hk : k < 8) :
    (x ++ v.extractLsb' 1 7).getLsbD k = if k = 7 then incoming else v.getLsbD (k + 1) := by
  rw [BitVec.getLsbD_append]
  by_cases h : k = 7
  · simp [h, hx]
  · have h7 : k < 7 := by omega
    simp [h, h7, Nat.add_comm]

/-- The two halves of `v`, exchanged. -/
theorem getLsbD_swapHalves (hk : k < 8) :
    (v.extractLsb' 0 4 ++ v.extractLsb' 4 4).getLsbD k = v.getLsbD ((k + 4) % 8) := by
  rw [BitVec.getLsbD_append]
  by_cases h : k < 4
  · have e : (k + 4) % 8 = 4 + k := by omega
    simp [h, e]
  · have e : (k + 4) % 8 = k - 4 := by omega
    have h4 : k - 4 < 4 := by omega
    simp [h, e, h4]

end Bits

/-- A rotate or shift moves the bits up or down by one, and what comes in is its own; SWAP exchanges the halves. -/
theorem isShifted_shiftByte (op : ShiftOp) (v : Byte) (cf : Bool) : IsShifted op v cf (shiftByte op v cf) := by
  intro k hk
  cases op with
  | rlc => exact getLsbD_shiftUp (BitVec.getElem_extractLsb' Nat.one_pos) hk
  | rl => exact getLsbD_shiftUp BitVec.getElem_ofBool_zero hk
  | sla => exact getLsbD_shiftUp rfl hk
  | rrc => exact getLsbD_shiftDown (BitVec.getElem_extractLsb' Nat.one_pos) hk
  | rr => exact getLsbD_shiftDown BitVec.getElem_ofBool_zero hk
  | sra => exact getLsbD_shiftDown (BitVec.getElem_extractLsb' Nat.one_pos) hk
  | srl => exact getLsbD_shiftDown rfl hk
  | swap => exact getLsbD_swapHalves hk

theorem shiftCarry_eq_movedOut (op : ShiftOp) (v : Byte) : shiftCarry op v = movedOut op v := by
  cases op <;> rfl

theorem shiftFlags_spec (op : ShiftOp) (v : Byte) (cf : Bool) :
    ShiftFlags op v (shiftByte op v cf = 0) (shiftFlags op v cf) :=
  ⟨decide_eq_true_iff, rfl, rfl, shiftCarry_eq_movedOut op v⟩

theorem accShiftFlags_spec (op : ShiftOp) (v : Byte) : ShiftFlags op v False (accShiftFlags op v) :=
  ⟨Bool.false_eq_true.to_iff, rfl, rfl, shiftCarry_eq_movedOut op v⟩

/-- Settles O42: each of the four is the shared rotate of the accumulator. -/
theorem accumulatorRotates : Obligations.AccumulatorRotates := by
  intro s Rotates
  have rotates {i : Instr} {op : ShiftOp} (e : exec i s = .next (s.rotateA op)) : Rotates i op :=
    ⟨_, e, isShifted_shiftByte op s.a s.flags.cf, accShiftFlags_spec op s.a, frame_setReg8_setFlags (d := .A) rfl⟩
  exact ⟨rotates rfl, rotates rfl, rotates rfl, rotates rfl⟩

/-- Settles O43: a register row writes the shifted byte to its register, a memory row stores it at `HL`. -/
theorem rotatesAndShifts : Obligations.RotatesAndShifts := by
  intro s op
  refine ⟨fun r => ?_, ?_⟩
  · have written : (s.shiftReg op r).getReg8 r = shiftByte op (s.getReg8 r) s.flags.cf := getReg8_setReg8_same s r _
    refine ⟨s.shiftReg op r, exec_rowShiftReg op r s, ?_, ?_, frame_setReg8_setFlags rfl⟩
    · rw [written]
      exact isShifted_shiftByte op _ _
    · rw [written]
      exact shiftFlags_spec op _ _
  · obtain ⟨t, e, stored⟩ := completes_storeFlags (exec_rowShiftMem op s) (shiftFlags_spec op _ _)
    exact ⟨t, e, _, isShifted_shiftByte op _ _, stored⟩

/-! ### BIT (R251, R252) -/

/-- Settles O44: BIT writes the flags and a count. -/
theorem bitTests : Obligations.BitTests := by
  intro s b Tests
  have tests {i : Instr} {v : Byte} {n : Nat} (e : exec i s = .next ((s.setFlags (bitFlags b v s.flags)).charge n)) :
      Tests i v n :=
    ⟨_, e, rfl, quiet_charge (quiet_setFlags (quiet_refl s) _) n, rfl, rfl, rfl⟩
  exact ⟨fun r => tests (exec_rowBitReg b r s), tests (exec_rowBitMem b s)⟩

/-! ### RES and SET (R253 to R256) -/

theorem octal_toNat_lt (b : Octal) : b.toNat < 8 := by
  cases b <;> decide

theorem isWithBit_withBit (v : Byte) (b : Octal) (x : Bool) : IsWithBit v b.toNat x (withBit v b.toNat x) :=
  fun k => getLsbD_withBit v b.toNat k x (octal_toNat_lt b)

/-- Settles O45: every row is the load or the store of the byte with that one bit replaced. -/
theorem bitResetsAndSets : Obligations.BitResetsAndSets := by
  intro s b InReg InMem
  have inReg {i : Instr} {r : Reg8} {x : Bool}
      (e : exec i s = .next ((s.setReg8 r (withBit (s.getReg8 r) b.toNat x)).charge 8)) : InReg i r x := by
    obtain ⟨t, run, written, kept⟩ := completes_load e
    exact ⟨t, run, written ▸ isWithBit_withBit _ b x, kept⟩
  have inMem {i : Instr} {x : Bool}
      (e : exec i s = .next ((s.memWrite s.hl (withBit s.readHl b.toNat x)).charge 16)) : InMem i x := by
    obtain ⟨t, run, stored⟩ := completes_store e
    exact ⟨t, run, _, isWithBit_withBit _ b x, stored⟩
  exact ⟨fun r => ⟨inReg (exec_rowResReg b r s), inReg (exec_rowSetReg b r s)⟩, inMem (exec_rowResMem b s),
    inMem (exec_rowSetMem b s)⟩

end Machine
end Sys2Proof
end

section
/-! Calls, restarts and returns (R276 to R281): a call is a push of `PC`, a write of `PC` and a count, a return the write
of `SP` and of `PC` and a count; one that is not taken is a count alone. -/

namespace Sys2Proof
namespace Machine

open Stated

/-- A call or return that is not taken reports its count and changes nothing else. -/
theorem completes_notTaken {i : Instr} {s : State} {n : Nat} (e : exec i s = .next (s.charge n)) :
    Completes i s fun t => t.pc = s.pc ∧ t.sp = s.sp ∧ Quiet [] s t ∧ t.flags = s.flags ∧ t.cycles = n :=
  ⟨_, e, rfl, rfl, quiet_setPc_charge s s.pc n, rfl, rfl⟩

/-! ### Calls and restarts (R276, R277, R281) -/

theorem regsKept_push16 (s : State) (v : Word) : RegsKept [] s (s.push16 v) := fun r _ =>
  getReg8_congr (push16_a s v) (push16_b s v) (push16_c s v) (push16_d s v) (push16_e s v) (push16_h s v)
    (push16_l s v) r

theorem controlKept_push16 (s : State) (v : Word) : ControlKept s (s.push16 v) := by
  simp [ControlKept]

/-- After a part `u` that pushes `v` and keeps the CPU's other state, the write of `PC` and the count keep it too. -/
theorem pushed_setPc_charge {s u : State} {v : Word} (hpush : PushesWord v s u) (hregs : RegsKept [] s u)
    (hcontrol : ControlKept s u) (hflags : u.flags = s.flags) (target : Word) (n : Nat) :
    let t := (u.setPc target).charge n
    t.pc = target ∧ PushesWord v s t ∧ RegsKept [] s t ∧ ControlKept s t ∧ t.flags = s.flags ∧ t.cycles = n :=
  ⟨rfl, hpush, hregs, hcontrol, hflags, rfl⟩

/-- What a call of `target` that reports `n` cycles leaves behind. -/
theorem completes_call {i : Instr} {s : State} {target : Word} {n : Nat}
    (e : exec i s = .next (((s.push16 s.pc).setPc target).charge n)) : Completes i s fun t =>
      t.pc = target ∧ PushesWord s.pc s t ∧ RegsKept [] s t ∧ ControlKept s t ∧ t.flags = s.flags ∧ t.cycles = n :=
  ⟨_, e, pushed_setPc_charge (pushesWord_push16 s s.pc) (regsKept_push16 s s.pc) (controlKept_push16 s s.pc)
    (push16_flags s s.pc) target n⟩

/-- Settles O47: each is a call of its target, or, where the condition fails, a count alone. -/
theorem callsPushTheReturnAddress : Obligations.CallsPushTheReturnAddress := by
  intro s c nn k Calls
  refine ⟨completes_call rfl, completes_call (exec_rowRst k s), fun hc => ?_, fun hc => ?_⟩
  · have taken := (holds_iff s c).2 hc
    exact completes_call ((exec_rowCallCond c nn s).trans (congrArg _ (if_pos taken)))
  · have notTaken := mt (holds_iff s c).1 hc
    exact completes_notTaken ((exec_rowCallCond c nn s).trans (congrArg _ (if_neg notTaken)))

/-! ### Returns (R278 to R280, R311) -/

/-- What a return that reports `n` cycles leaves behind: the frame is that of the write of `SP`. -/
theorem completes_return {i : Instr} {s : State} {n : Nat}
    (e : exec i s = .next ((s.popped.setPc s.stackTop).charge n)) : Completes i s fun t =>
      (t.pc = s.stackTop ∧ t.sp = s.sp + 2 ∧ RegsKept [] s t ∧ NothingStored s t ∧ t.flags = s.flags ∧ t.cycles = n)
        ∧ ControlKept s t := by
  obtain ⟨regs, control, stored⟩ := quiet_setSp s (s.sp + 2)
  exact ⟨_, e, ⟨rfl, rfl, regs, stored, rfl, rfl⟩, control⟩

/-- Setting the master enable keeps every register and stores nothing. -/
theorem enabled_kept {s u : State} (hregs : RegsKept [] s u) (hstored : NothingStored s u) :
    let t := (u.setIme true).setImeDelay 0
    RegsKept [] s t ∧ NothingStored s t :=
  ⟨hregs, hstored⟩

/-- RETI is RET, after which the master enable is set and no delay is pending. -/
theorem completes_reti (s : State) : Completes .reti s fun t =>
    (t.pc = s.stackTop ∧ t.sp = s.sp + 2 ∧ RegsKept [] s t ∧ NothingStored s t ∧ t.flags = s.flags ∧ t.cycles = 16)
      ∧ t.ime = true ∧ t.imeDelay = 0 ∧ t.halted = s.halted ∧ t.stopped = s.stopped ∧ t.fault = s.fault := by
  obtain ⟨u, hu, ⟨hpc, hsp, hregs, hstored, hflags, hcycles⟩, hhalted, hstopped, hfault, -⟩ :=
    completes_return (i := .ret) (s := s) (n := 16) rfl
  obtain rfl : s.ret = u := Host.Outcome.next.inj hu
  obtain ⟨regs, stored⟩ := enabled_kept hregs hstored
  exact ⟨(s.ret.setIme true).setImeDelay 0, rfl, ⟨hpc, hsp, regs, stored, hflags, hcycles⟩, rfl, rfl, hhalted, hstopped,
    hfault⟩

/-- Settles O48: the word is the model's `stackTop`, to which every return that is taken goes. -/
theorem returnsPopTheAddress : Obligations.ReturnsPopTheAddress := by
  intro s c v hv Returns
  obtain rfl := (wordAtSp_iff s v).1 hv
  refine ⟨completes_return rfl, completes_reti s, fun hc => ?_, fun hc => ?_⟩
  · have taken := (holds_iff s c).2 hc
    exact completes_return ((exec_rowRetCond c s).trans (congrArg _ (if_pos taken)))
  · have notTaken := mt (holds_iff s c).1 hc
    exact completes_notTaken ((exec_rowRetCond c s).trans (congrArg _ (if_neg notTaken)))

/-! ### RET after a call (R276, R278, R281) -/

theorem stackTop_setPc_charge (s : State) (v : Word) (n : Nat) : ((s.setPc v).charge n).stackTop = s.stackTop := rfl

theorem pc_sp_of_ret {t u : State} (h : exec .ret t = .next u) : u.pc = t.stackTop ∧ u.sp = t.sp + 2 := by
  obtain rfl : t.ret = u := Host.Outcome.next.inj h
  exact ⟨rfl, rfl⟩

/-- RET in the state that a call of `target` leaves: the pushed `PC` is on the top of the stack. -/
theorem ret_after_call {s u : State} {target : Word} {n : Nat} (h1 : Plain s.params.map (s.sp - 1))
    (h2 : Plain s.params.map (s.sp - 2)) (hret : exec .ret (((s.push16 s.pc).setPc target).charge n) = .next u) :
    u.pc = s.pc ∧ u.sp = s.sp := by
  obtain ⟨hpc, hsp⟩ := pc_sp_of_ret hret
  have top : (((s.push16 s.pc).setPc target).charge n).stackTop = s.pc :=
    (stackTop_setPc_charge _ target n).trans (stackTop_push16 s s.pc h1 h2)
  have sp_below : (((s.push16 s.pc).setPc target).charge n).sp = s.sp - 2 := by simp
  rw [hpc, hsp, top, sp_below]
  exact ⟨rfl, BitVec.sub_add_cancel s.sp 2⟩

/-- Settles O49: CALL and RST both leave the state of a call, which RET undoes. -/
theorem returnUndoesTheCall : Obligations.ReturnUndoesTheCall := by
  intro s t u nn k h1 h2 hcall hret
  rcases hcall with hcall | hrst
  · obtain rfl : s.call nn = t := Host.Outcome.next.inj hcall
    exact ret_after_call h1 h2 hret
  · obtain rfl : s.restart k = t := Host.Outcome.next.inj ((exec_rowRst k s).symm.trans hrst)
    exact ret_after_call h1 h2 hret

end Machine
end Sys2Proof
end

section
/-! NOP, HALT, STOP, DI and EI (R290 to R294), and the enable delay over a whole step (R312, R420): the devices that
advance after an instruction keep the CPU. -/

namespace Sys2Proof
namespace Machine

open Stated

/-! ### What the system instructions write (R290 to R294) -/

/-- The write of the CPU's control state but the fault latch, and the four cycles of a system instruction. -/
def State.withControl (s : State) (halted stopped ime : Bool) (delay : Fin 3) : State :=
  { s with halted := halted, stopped := stopped, ime := ime, imeDelay := delay, cycles := 4 }

/-- The frame of every system instruction. -/
theorem frame_withControl (s : State) (halted stopped ime : Bool) (delay : Fin 3) :
    let t := s.withControl halted stopped ime delay
    RegsKept [] s t ∧ NothingStored s t ∧ t.flags = s.flags ∧ t.sp = s.sp ∧ t.pc = s.pc ∧ t.fault = s.fault
      ∧ t.cycles = 4 :=
  ⟨fun _ _ => rfl, nothingStored_of_same ⟨rfl, rfl, rfl, rfl, rfl, rfl, rfl, rfl, rfl, rfl, rfl, rfl, rfl⟩, rfl, rfl, rfl,
    rfl, rfl⟩

/-- EI starts the delay where none is under way. -/
theorem exec_ei_of_no_delay {s : State} (h : s.imeDelay = 0) : exec .ei s = .next ((s.setImeDelay 2).charge 4) :=
  congrArg (fun t : State => Host.Outcome.next (t.charge 4)) (if_pos h)

/-- A delay under way runs on. -/
theorem exec_ei_of_delay {s : State} (h : s.imeDelay ≠ 0) : exec .ei s = .next (s.charge 4) :=
  congrArg (fun t : State => Host.Outcome.next (t.charge 4)) (if_neg h)

theorem exec_ei (s : State) : exec .ei s =
    .next (s.withControl s.halted s.stopped s.ime (if s.imeDelay = 0 then 2 else s.imeDelay)) := by
  by_cases h : s.imeDelay = 0
  · rw [exec_ei_of_no_delay h, if_pos h]
    rfl
  · rw [exec_ei_of_delay h, if_neg h]
    rfl

/-- Settles O50: each of the five is one write of the control state, with the frame that all of them share. -/
theorem systemInstructions : Obligations.SystemInstructions := by
  intro s pad Rest
  have rest : ∀ halted stopped ime delay, Rest (s.withControl halted stopped ime delay) := frame_withControl s
  exact ⟨⟨s.withControl s.halted s.stopped s.ime s.imeDelay, rfl, rest _ _ _ _, rfl, rfl, rfl, rfl, rfl⟩,
    ⟨s.withControl true s.stopped s.ime s.imeDelay, rfl, rest _ _ _ _, rfl, rfl, rfl, rfl⟩,
    ⟨s.withControl s.halted true s.ime s.imeDelay, rfl, rest _ _ _ _, rfl, rfl, rfl, rfl⟩,
    ⟨s.withControl s.halted s.stopped false 0, rfl, rest _ _ _ _, rfl, rfl, rfl, rfl⟩,
    ⟨_, exec_ei s, rest _ _ _ _, rfl, rfl, rfl, rfl⟩⟩

/-! ### The devices keep the CPU (R321) -/

/-- The state of the CPU itself (R20 to R30): what the display controller and the timer do not touch. -/
structure CpuPart where
  a : Byte
  b : Byte
  c : Byte
  d : Byte
  e : Byte
  h : Byte
  l : Byte
  flags : Flags
  sp : Word
  pc : Word
  halted : Bool
  stopped : Bool
  fault : Option UnimplementedOpcode
  ime : Bool
  imeDelay : Fin 3

/-- The CPU of a state of the machine. -/
def State.cpuPart (s : State) : CpuPart where
  a := s.a
  b := s.b
  c := s.c
  d := s.d
  e := s.e
  h := s.h
  l := s.l
  flags := s.flags
  sp := s.sp
  pc := s.pc
  halted := s.halted
  stopped := s.stopped
  fault := s.fault
  ime := s.ime
  imeDelay := s.imeDelay

section Devices
variable (s : State)

@[simp] theorem ioSet_cpuPart (r : IoReg) (v : Byte) : (s.ioSet r v).cpuPart = s.cpuPart := rfl

@[simp] theorem raiseBit_cpuPart (r : IoReg) (k : Nat) : (s.raiseBit r k).cpuPart = s.cpuPart := rfl

@[simp] theorem setLy_cpuPart (v : Byte) : (s.setLy v).cpuPart = s.cpuPart := rfl

@[simp] theorem setLcdAcc_cpuPart (n : Nat) : (s.setLcdAcc n).cpuPart = s.cpuPart := rfl

@[simp] theorem setLcdMode_cpuPart (m : LcdMode) : (s.setLcdMode m).cpuPart = s.cpuPart := rfl

@[simp] theorem setBack_cpuPart (p : Picture) : (s.setBack p).cpuPart = s.cpuPart := rfl

@[simp] theorem publishFrame_cpuPart : s.publishFrame.cpuPart = s.cpuPart := rfl

@[simp] theorem setPendingOverflow_cpuPart (b : Bool) : (s.setPendingOverflow b).cpuPart = s.cpuPart := rfl

@[simp] theorem setLastSample_cpuPart (b : Bool) : (s.setLastSample b).cpuPart = s.cpuPart := rfl

@[simp] theorem enterMode_cpuPart (m : LcdMode) : (s.enterMode m).cpuPart = s.cpuPart := by simp [State.enterMode]

@[simp] theorem requestLcd_cpuPart (k : Nat) : (s.requestLcd k).cpuPart = s.cpuPart := by
  obtain e | ⟨v, e⟩ := requestLcd_cases s k <;> simp [e]

@[simp] theorem compareLy_cpuPart : s.compareLy.cpuPart = s.cpuPart := by
  obtain ⟨v, e | ⟨w, e⟩⟩ := compareLy_cases s <;> simp [e]

@[simp] theorem renderLine_cpuPart : s.renderLine.cpuPart = s.cpuPart := by
  unfold State.renderLine
  split <;> simp [State.renderScanline]

@[simp] theorem enterOamScan_cpuPart : s.enterOamScan.cpuPart = s.cpuPart := by simp [State.enterOamScan]

@[simp] theorem enterVBlank_cpuPart : s.enterVBlank.cpuPart = s.cpuPart := by simp [State.enterVBlank]

@[simp] theorem leaveHBlank_cpuPart : s.leaveHBlank.cpuPart = s.cpuPart := by
  unfold State.leaveHBlank
  simp only
  split <;> simp

@[simp] theorem endVBlankLine_cpuPart : s.endVBlankLine.cpuPart = s.cpuPart := by
  unfold State.endVBlankLine
  simp only
  split <;> simp

@[simp] theorem leaveMode_cpuPart : s.leaveMode.cpuPart = s.cpuPart := by
  unfold State.leaveMode
  split <;> simp

theorem displayAdvance_cpuPart (n : Nat) : (s.displayAdvance n).cpuPart = s.cpuPart := by
  unfold State.displayAdvance
  simp only
  split <;> simp

@[simp] theorem tickCounter_cpuPart : s.tickCounter.cpuPart = s.cpuPart := by simp [State.tickCounter, State.setSyscnt]

@[simp] theorem tickReload_cpuPart : s.tickReload.cpuPart = s.cpuPart := by
  unfold State.tickReload
  split <;> simp

@[simp] theorem countTima_cpuPart : s.countTima.cpuPart = s.cpuPart := by
  unfold State.countTima
  simp only
  split <;> simp

@[simp] theorem tickSample_cpuPart : s.tickSample.cpuPart = s.cpuPart := by
  unfold State.tickSample
  split
  · split <;> simp
  · rfl

theorem timerAdvance_cpuPart (n : Nat) : (s.timerAdvance n).cpuPart = s.cpuPart := by
  induction n generalizing s with
  | zero => rfl
  | succ n ih => exact (ih s.timerTick).trans (by simp [State.timerTick])

/-- The devices, the display controller first, keep the CPU. -/
theorem devices_cpuPart (m n : Nat) : ((s.displayAdvance m).timerAdvance n).cpuPart = s.cpuPart :=
  (timerAdvance_cpuPart _ n).trans (displayAdvance_cpuPart s m)

end Devices

/-! ### The end of an instruction (R312) -/

section EndOfInstruction
variable {s : State}

theorem endInstruction_of_zero (h : s.imeDelay = 0) : s.endInstruction = s := by
  unfold State.endInstruction
  rw [h]

theorem endInstruction_of_one (h : s.imeDelay = 1) : s.endInstruction = (s.setImeDelay 0).setIme true := by
  unfold State.endInstruction
  rw [h]

theorem endInstruction_of_two (h : s.imeDelay = 2) : s.endInstruction = s.setImeDelay 1 := by
  unfold State.endInstruction
  rw [h]

/-- The reported count plays no part in it. -/
theorem endInstruction_setCycles_cpuPart (s : State) (n : Nat) :
    (s.setCycles n).endInstruction.cpuPart = s.endInstruction.cpuPart := by
  unfold State.endInstruction
  rw [State.setCycles_imeDelay]
  split <;> rfl

/-- With one instruction to go, or where RETI has enabled interrupts already, the master enable is set after it. -/
theorem enabled_endInstruction (h : s.imeDelay = 1 ∨ (s.ime = true ∧ s.imeDelay = 0)) :
    s.endInstruction.ime = true ∧ s.endInstruction.imeDelay = 0 := by
  rcases h with h | h
  · rw [endInstruction_of_one h]
    exact ⟨rfl, rfl⟩
  · rwa [endInstruction_of_zero h.2]

end EndOfInstruction

/-- No instruction but DI stops a delay that has one instruction to go; RETI alone forestalls it. -/
theorem enables_of_exec {i : Instr} {s t : State} (e : exec i s = .next t) (hdi : i ≠ .di) (hd : s.imeDelay = 1) :
    t.imeDelay = 1 ∨ (t.ime = true ∧ t.imeDelay = 0) := by
  by_cases hei : i = .ei
  · subst hei
    rw [exec_ei_of_delay (by rw [hd]; decide)] at e
    obtain rfl := Host.Outcome.next.inj e
    exact .inl hd
  by_cases hreti : i = .reti
  · subst hreti
    obtain rfl : s.reti = t := Host.Outcome.next.inj e
    exact .inr ⟨rfl, rfl⟩
  · obtain ⟨kept, -⟩ := controlStateHasItsOwnInstructions i s t e
    obtain ⟨-, delayKept⟩ := kept hei hdi hreti
    exact .inl (delayKept.trans hd)

/-! ### The step around it (R320, R321) -/

/-- At a hole of the extended page the tables have no instruction. -/
theorem fetched_of_atHole {s : State} (h : AtHole s) : fetched s = .undefined 0xCB := by
  obtain ⟨h0, hole⟩ := h
  unfold fetched Params.instrOf
  rw [h0, if_pos rfl, hole]

/-- A step that fetches a defined instruction leaves the CPU as the instruction and the end-of-instruction rule do. -/
theorem step_cpuPart {s t : State} {i : Instr} (hf : Fetches s) (hi : fetched s = i) (hu : ∀ op, i ≠ .undefined op)
    (e : exec i (s.setPc (s.pc + BitVec.ofNat 16 (fetchedLength s))) = .next t) :
    ∃ u, step s = .next u ∧ u.cpuPart = t.endInstruction.cpuPart := by
  subst hi
  have hole : ¬ AtHole s := fun h => hu 0xCB (fetched_of_atHole h)
  have ht : t.fault = none := (exec_fault hu e).trans hf.1
  exact ⟨_, step_fetched_running hf hole e ht rfl, (devices_cpuPart _ _ _).trans (endInstruction_setCycles_cpuPart t _)⟩

/-- With the standard tables a row of one byte is what is fetched exactly where its byte stands at `PC`. -/
theorem fetched_eq_iff_byte {s : State} (hs : StandardTables s.params) {i : Instr} {op : Byte} (hw : i.wellFormed = true)
    (he : encode i = [op]) : fetched s = i ↔ s.memRead s.pc = op := by
  have hl : i.length = 1 := by rw [← encode_length, he, List.length_singleton]
  obtain ⟨hdecoded, -⟩ := fetched_standard hs rfl
  rw [hdecoded, decodeBytes_eq_iff, EncodesTo, he, hl]
  simp [hw, eq_comm]

/-- Settles O17: EI leaves a delay of two, of which the end of its own instruction takes one and the end of the next the
other. -/
theorem enableTakesEffectAfterTheNextInstruction : Obligations.EnableTakesEffectAfterTheNextInstruction := by
  refine ⟨fun s hf hime hdelay hei => ?_, fun s hf hdelay hdi hu => ?_, fun s hf hdi => ?_, fun s hs => ⟨fun h => ?_,
    (fetched_eq_iff_byte hs (i := .di) rfl rfl).2, (fetched_eq_iff_byte hs (i := .di) rfl rfl).1, fun op h => ?_⟩⟩
  · have started := exec_ei_of_no_delay (s := s.setPc (s.pc + BitVec.ofNat 16 (fetchedLength s))) hdelay
    obtain ⟨u, hu, cpu⟩ := step_cpuPart hf hei nofun started
    rw [endInstruction_of_two rfl] at cpu
    obtain ⟨-, -, running, -⟩ := hf
    exact ⟨u, hu, (congrArg CpuPart.ime cpu).trans hime, congrArg CpuPart.imeDelay cpu,
      (congrArg CpuPart.halted cpu).trans running, congrArg CpuPart.pc cpu⟩
  · have e := exec_form (fetched s) (s.setPc (s.pc + BitVec.ofNat 16 (fetchedLength s)))
    obtain ⟨u, hu, cpu⟩ := step_cpuPart hf rfl hu e
    obtain ⟨enabled, done⟩ := enabled_endInstruction (enables_of_exec e hdi hdelay)
    exact ⟨u, hu, (congrArg CpuPart.ime cpu).trans enabled, (congrArg CpuPart.imeDelay cpu).trans done⟩
  · obtain ⟨u, hu, cpu⟩ := step_cpuPart hf hdi nofun rfl
    rw [endInstruction_of_zero rfl] at cpu
    exact ⟨u, hu, congrArg CpuPart.ime cpu, congrArg CpuPart.imeDelay cpu⟩
  · have hei := (fetched_eq_iff_byte hs (i := .ei) rfl rfl).2 h
    obtain ⟨hdecoded, hlength, -⟩ := fetched_standard hs rfl
    exact ⟨hei, by rw [hlength, ← hdecoded, hei]; rfl⟩
  · obtain ⟨hdecoded, -⟩ := fetched_standard hs rfl
    obtain ⟨rfl, hm⟩ := (decodeBytes_eq_undefined_iff _ _ _ _).1 (hdecoded.symm.trans h)
    exact hs.2 ▸ hm

end Machine
end Sys2Proof
end

section
/-! Interrupts, the halted CPU and where a machine step is taken (R303, R304, R310, R315, R322, R427): the source serviced
is the first of the five in order of their bits, a service is a push from the woken CPU, and a halted CPU that cannot be
woken is as it was after every run. -/

namespace Sys2Proof
namespace Machine

open Stated

/-! ### The source that is serviced (R303, R304) -/

/-- The sources in the order of their bits, which is that of their priority. -/
def IntSource.inOrder : List IntSource := [.vBlank, .lcd, .timer, .serial, .input]

theorem inOrder_bit {k : Nat} (h : k < IntSource.inOrder.length) : IntSource.inOrder[k].bit = k := by
  have all : ∀ k : Fin 5, IntSource.inOrder[k.val].bit = k := by decide
  exact all ⟨k, h⟩

theorem inOrder_at_bit (i : IntSource) : ∃ h : i.bit < IntSource.inOrder.length, IntSource.inOrder[i.bit] = i := by
  cases i <;> exact ⟨by decide, rfl⟩

theorem lowFive_getLsbD (k : Nat) : (0x1F : Byte).getLsbD k = decide (k < 5) := by
  by_cases hk : k < 8
  · have all : ∀ k : Fin 8, (0x1F : Byte).getLsbD k.val = decide (k.val < 5) := by decide
    exact all ⟨k, hk⟩
  · rw [BitVec.getLsbD_of_ge _ _ (by omega), decide_eq_false (by omega)]

section Pending
variable (s : State)

/-- Bit `k` is a request that IE enables. -/
def State.requestedAt (s : State) (k : Nat) : Prop := (s.ioGet .IF).getLsbD k = true ∧ (s.ioGet .IE).getLsbD k = true

theorem serviceable_iff (i : IntSource) : s.serviceable i = true ↔ s.requestedAt i.bit := by
  simp [State.serviceable, State.ioBit, bitAt, State.requestedAt]

/-- The model's choice is the first serviceable source of the list. -/
theorem pendingSource_eq_find : s.pendingSource = IntSource.inOrder.find? s.serviceable := by
  unfold State.pendingSource IntSource.inOrder
  repeat' split
  all_goals simp [List.find?, *]

theorem pendingSource_eq_some_iff (i : IntSource) :
    s.pendingSource = some i ↔ s.requestedAt i.bit ∧ ∀ k, k < i.bit → ¬ s.requestedAt k := by
  rw [pendingSource_eq_find, List.find?_eq_some_iff_getElem, serviceable_iff]
  refine and_congr_right fun _ => ⟨?_, fun h => ?_⟩
  · rintro ⟨n, hn, rfl, first⟩ k hk
    rw [inOrder_bit] at hk
    have := first k hk
    rw [Bool.not_eq_true', ← Bool.not_eq_true, serviceable_iff, inOrder_bit] at this
    exact this
  · obtain ⟨hi, e⟩ := inOrder_at_bit i
    refine ⟨i.bit, hi, e, fun k hk => ?_⟩
    rw [Bool.not_eq_true', ← Bool.not_eq_true, serviceable_iff, inOrder_bit]
    exact h k hk

theorem pendingSource_eq_none_iff : s.pendingSource = none ↔ ∀ k, k < 5 → ¬ s.requestedAt k := by
  rw [pendingSource_eq_find, List.find?_eq_none]
  refine ⟨fun h k hk => ?_, fun h i _ => ?_⟩
  · have hk : k < IntSource.inOrder.length := hk
    have := h _ (List.getElem_mem hk)
    rwa [serviceable_iff, inOrder_bit] at this
  · obtain ⟨hi, -⟩ := inOrder_at_bit i
    rw [serviceable_iff]
    exact h _ hi

theorem common_bits_eq_zero_iff (v w : Byte) :
    (v &&& w) &&& 0x1F = 0 ↔ ∀ k, k < 5 → ¬ (v.getLsbD k = true ∧ w.getLsbD k = true) := by
  have bits (k : Nat) : ((v &&& w) &&& 0x1F).getLsbD k = (v.getLsbD k && w.getLsbD k && decide (k < 5)) := by
    rw [BitVec.getLsbD_and, BitVec.getLsbD_and, lowFive_getLsbD]
  refine ⟨fun h k hk => ?_, fun h => BitVec.eq_of_getLsbD_eq fun k _ => ?_⟩
  · have := bits k
    rw [h] at this
    simpa [hk] using this
  · rw [bits]
    by_cases hk : k < 5
    · simpa [hk] using h k hk
    · simp [hk]

end Pending

/-- Settles O13: the choice is a search through the sources in the order of their bits. -/
theorem lowestRequestIsServiced : Obligations.LowestRequestIsServiced := fun s =>
  ⟨fun i => (pendingSource_eq_some_iff s i).trans and_assoc,
    (pendingSource_eq_none_iff s).trans (common_bits_eq_zero_iff (s.ioGet .IF) (s.ioGet .IE)).symm⟩

/-! ### The service (R304, R310) -/

section Service
variable (s : State)

/-- What a service does to the CPU's control state: the master enable and its delay are cleared, and the CPU wakes. -/
def State.woken (s : State) : State := { s with ime := false, imeDelay := 0, halted := false }

theorem setHalted_setImeDelay_setIme : ((s.setIme false).setImeDelay 0).setHalted false = s.woken := rfl

/-- A write does not see the control state. -/
theorem woken_memWrite (a : Word) (v : Byte) : s.woken.memWrite a v = (s.memWrite a v).woken :=
  memWrite_of_cpu s State.woken (fun _ _ => rfl) (fun _ _ => rfl) (fun _ _ => rfl) (fun _ _ => rfl)
    (fun _ => rfl) (fun _ => rfl) (fun _ => rfl) (fun _ _ => rfl) a v

theorem woken_push16 (v : Word) : s.woken.push16 v = (s.push16 v).woken := by
  rw [push16_writes, push16_writes]
  show ((s.woken.memWrite (s.sp - 1) (hiByte v)).memWrite (s.sp - 2) (loByte v)).setSp (s.sp - 2) = _
  rw [woken_memWrite, woken_memWrite]
  rfl

/-- A service clears the request, pushes `PC` and goes to the vector, woken. -/
theorem serviceInterrupt_eq (i : IntSource) : s.serviceInterrupt i =
    ((((s.ioSet .IF (withBit (s.ioGet .IF) i.bit false)).push16 s.pc).woken.setPc (i.vector s.params.intVector)).setCycles
      s.params.intDispatchCycles) := by
  unfold State.serviceInterrupt
  simp only
  rw [setHalted_setImeDelay_setIme, woken_push16]
  rfl

/-- A running CPU with the master enable set services the pending source; the devices advance by the dispatch's count. -/
theorem step_service {s : State} {i : IntSource} (hf : s.fault = none) (hs : s.stopped = false) (hm : s.ime = true)
    (hp : s.pendingSource = some i) :
    step s = .next (((s.serviceInterrupt i).displayAdvance s.params.intDispatchCycles).timerAdvance
      s.params.intDispatchCycles) := by
  have e : s.cpuStep = .next (s.serviceInterrupt i) := by
    unfold State.cpuStep
    rw [hm, if_pos rfl, hp]
  have running : (s.serviceInterrupt i).fault = none := by
    rw [serviceInterrupt_eq]
    simp [State.woken, hf]
  rw [step_of_cpuStep hf hs e, advanceDevices_running running, serviceInterrupt_cycles]

/-- After a push, the waking, the write of `PC` and the count leave what was pushed and the rest of the CPU. -/
theorem woken_setPc_setCycles {s u : State} {v : Word} (hpush : PushesWord v s u) (target : Word) (n : Nat) :
    let t := (u.woken.setPc target).setCycles n
    t.pc = target ∧ t.ime = false ∧ t.imeDelay = 0 ∧ t.halted = false ∧ t.cycles = n ∧ RegsKept [] u t
      ∧ t.flags = u.flags ∧ t.stopped = u.stopped ∧ t.fault = u.fault ∧ PushesWord v s t :=
  ⟨rfl, rfl, rfl, rfl, rfl, fun _ _ => rfl, rfl, rfl, rfl, hpush⟩

end Service

/-- Settles O14: the lowest common bit is the pending source, and its service is a push after its request is cleared. -/
theorem serviceEntersTheHandler : Obligations.ServiceEntersTheHandler := by
  refine ⟨fun s i hf hs hm hIF hIE first => ?_, rfl, rfl⟩
  have hp := (pendingSource_eq_some_iff s i).2 ⟨⟨hIF, hIE⟩, first⟩
  refine ⟨_, step_service hf hs hm hp, ?_⟩
  rw [serviceInterrupt_eq]
  generalize hc : withBit (s.ioGet .IF) i.bit false = f
  have cleared : IsWithBit (s.ioGet .IF) i.bit false f := fun k => by
    obtain ⟨hi, -⟩ := inOrder_at_bit i
    rw [← hc, getLsbD_withBit _ _ _ _ (Nat.lt_trans hi (by decide))]
  obtain ⟨hpc, hime, hdelay, hhalted, hcycles, hregs, hflags, hstopped, hfault, hpush⟩ :=
    woken_setPc_setCycles (pushesWord_push16 (s.ioSet .IF f) s.pc) (i.vector s.params.intVector)
      s.params.intDispatchCycles
  have regs := regsKept_push16 (s.ioSet .IF f) s.pc
  refine ⟨hpc.trans ?_, hime, hdelay, hhalted, hcycles, fun r hr => (hregs r hr).trans (regs r hr),
    hflags.trans (push16_flags _ s.pc), hstopped.trans (push16_stopped _ s.pc), hfault.trans (push16_fault _ s.pc),
    f, cleared, hpush⟩
  cases i <;> rfl

/-! ### Where a machine step is taken (R322) -/

/-- Every instruction fetch completes (R301). -/
theorem executeOne_completes (s : State) : ∃ t, s.executeOne = .next t := by
  cases hole : s.params.isHole (s.fetchByte 0) (s.fetchByte 1) with
  | true => exact ⟨_, executeOne_hole s hole⟩
  | false => exact ⟨_, executeOne_instr s _ hole (exec_form _ _)⟩

/-- So does every step of the CPU: a service, a halted tick or an instruction. -/
theorem cpuStep_completes (s : State) : ∃ t, s.cpuStep = .next t := by
  unfold State.cpuStep
  split
  · exact ⟨_, rfl⟩
  split
  · exact ⟨_, rfl⟩
  · exact executeOne_completes s

theorem step_completes {s : State} (hf : s.fault = none) (hs : s.stopped = false) : ∃ t, step s = .next t :=
  (cpuStep_completes s).elim fun _ e => ⟨_, step_of_cpuStep hf hs e⟩

theorem step_of_stopped {s : State} (hf : s.fault = none) (hs : s.stopped = true) : step s = .fault .stopped := by
  unfold step State.machineStep
  rw [hf, hs]
  rfl

/-- Settles O9: the CPU's step always completes, so that the latch and `stopped` alone keep a machine step from being
taken. -/
theorem stepStopsOnlyWhenStuck : Obligations.StepStopsOnlyWhenStuck := by
  refine fun s => ⟨step_completes, fun u hu => ⟨step_of_fault hu, hu⟩, fun hf hs => ⟨step_of_stopped hf hs, ?_⟩⟩
  obtain ⟨u, hu⟩ := step_completes (s := s.setStopped false) hf rfl
  exact ⟨_, u, if_pos hs, rfl, hu⟩

/-! ### A halted CPU with the master enable clear (R315, R427) -/

/-- It only ticks: after a machine step the CPU is as it was. -/
theorem step_halted {s : State} (hf : s.fault = none) (hs : s.stopped = false) (hh : s.halted = true)
    (hi : s.ime = false) : ∃ t, step s = .next t ∧ t.cpuPart = s.cpuPart := by
  obtain ⟨ticks, -⟩ := haltedStepTicksTheDevices
  exact ⟨_, ticks s hf hs hh (.inl hi), devices_cpuPart _ _ _⟩

theorem run_succ (n : Nat) {s t : State} (h : step s = .next t) :
    Sys2Proof.core.run (n + 1) s = Sys2Proof.core.run n t := by
  have e : Sys2Proof.core.step s = .next t := h
  simp only [Host.Core.run, e]

/-- And so it is after any number of them. -/
theorem run_halted (n : Nat) {s : State} (hf : s.fault = none) (hs : s.stopped = false) (hh : s.halted = true)
    (hi : s.ime = false) : ∃ t : State, Sys2Proof.core.run n s = .next t ∧ t.cpuPart = s.cpuPart := by
  induction n generalizing s with
  | zero => exact ⟨s, rfl, rfl⟩
  | succ n ih =>
    obtain ⟨t, ht, cpu⟩ := step_halted hf hs hh hi
    obtain ⟨u, hu, cpu'⟩ := ih ((congrArg CpuPart.fault cpu).trans hf) ((congrArg CpuPart.stopped cpu).trans hs)
      ((congrArg CpuPart.halted cpu).trans hh) ((congrArg CpuPart.ime cpu).trans hi)
    exact ⟨u, (run_succ n ht).trans hu, cpu'.trans cpu⟩

/-- Settles O16: the CPU after the run is the CPU before it. -/
theorem haltWithoutMasterEnableNeverEnds : Obligations.HaltWithoutMasterEnableNeverEnds := by
  intro n s hf hs hh hi
  obtain ⟨t, ht, cpu⟩ := run_halted n hf hs hh hi
  exact ⟨t, ht, (congrArg CpuPart.halted cpu).trans hh, (congrArg CpuPart.ime cpu).trans hi,
    fun r _ => getReg8_congr (congrArg CpuPart.a cpu) (congrArg CpuPart.b cpu) (congrArg CpuPart.c cpu)
      (congrArg CpuPart.d cpu) (congrArg CpuPart.e cpu) (congrArg CpuPart.h cpu) (congrArg CpuPart.l cpu) r,
    congrArg CpuPart.flags cpu, congrArg CpuPart.sp cpu, congrArg CpuPart.pc cpu⟩

end Machine
end Sys2Proof
end

section
/-! The timer (R331 to R338): what each part of a tick writes, one tick with and without a fall of the selected bit, and
the ticks of a period, of which exactly one is a fall. -/

namespace Sys2Proof
namespace Machine

open Stated

section Tick
variable (s : State)

/-! ### The parts of a tick (R331) -/

/-- TIMA after part (b): reloaded where an overflow was pending (R334). -/
def State.reloaded (s : State) : Byte := if s.pendingOverflow then s.ioGet .TMA else s.ioGet .TIMA

/-- The state that part (c) of a tick finds. -/
def State.ticking (s : State) : State := s.tickCounter.tickReload

/-- Whether the selected bit is set after the next tick (R332). -/
def State.nextTap (s : State) : Bool := ((counter s + 1) % 65536).testBit (timerTap (s.ioGet .TAC))

/-- The next tick sees a fall of the selected bit. -/
def State.falls (s : State) : Prop := (s.ioGet .TAC).getLsbD 2 = true ∧ s.lastSample = true ∧ s.nextTap = false

theorem timerTick_eq : s.timerTick = s.ticking.tickSample := rfl

@[simp] theorem ticking_params : s.ticking.params = s.params :=
  congrArg Prod.fst ((tickReload_inputs s.tickCounter).trans (tickCounter_inputs s))

/-- Parts (a) and (b): where an overflow was pending TIMA is reloaded and the interrupt requested; none is pending then. -/
theorem ticking_spec : s.ticking.ioGet .TIMA = s.reloaded
    ∧ s.ticking.ioGet .IF = (if s.pendingOverflow then withBit (s.ioGet .IF) 2 true else s.ioGet .IF)
    ∧ s.ticking.pendingOverflow = false ∧ s.ticking.lastSample = s.lastSample
    ∧ ∀ x, x ≠ s.params.map.addr .TIMA → x ≠ s.params.map.addr .IF → s.ticking.rawGet x = s.tickCounter.rawGet x := by
  unfold State.ticking State.reloaded
  cases h : s.pendingOverflow with
  | false =>
    rw [tickReload_idle s.tickCounter h]
    exact ⟨tickCounter_ioGet s .TIMA (by decide) (by decide), tickCounter_ioGet s .IF (by decide) (by decide), h, rfl,
      fun _ _ _ => rfl⟩
  | true =>
    obtain ⟨tima, iflag, pending, sample, -, frame⟩ := tickReload_pending s.tickCounter h
    rw [tickCounter_ioGet s _ (by decide) (by decide)] at tima iflag
    exact ⟨tima, iflag, pending, sample, frame⟩

/-- Part (c) writes TIMA alone. -/
theorem tickSample_rawGet {x : Nat} (h : x ≠ s.params.map.addr .TIMA) : s.tickSample.rawGet x = s.rawGet x := by
  obtain ⟨-, -, -, frame⟩ := countTima_spec s
  unfold State.tickSample
  split
  · split
    · rw [setLastSample_rawGet, frame x h]
    · rfl
  · rfl

/-- A tick writes the counter, TIMA and IF. -/
theorem timerTick_rawGet {x : Nat} (h1 : x ≠ s.params.map.addr .DIVLO) (h2 : x ≠ s.params.map.addr .DIV)
    (h3 : x ≠ s.params.map.addr .TIMA) (h4 : x ≠ s.params.map.addr .IF) : s.timerTick.rawGet x = s.rawGet x := by
  obtain ⟨-, -, -, -, frame⟩ := ticking_spec s
  rw [timerTick_eq, tickSample_rawGet s.ticking (by rwa [ticking_params]), frame x h3 h4, tickCounter_rawGet s x h1 h2]

/-! ### One tick -/

theorem timerTick_ioGet_of_ticking {r : IoReg} (h : r ≠ .TIMA) : s.timerTick.ioGet r = s.ticking.ioGet r := by
  unfold State.ioGet State.addr
  rw [timerTick_params, ticking_params, timerTick_eq, tickSample_rawGet s.ticking (by simpa using h)]

theorem ticking_ioGet_of_tickCounter {r : IoReg} (h1 : r ≠ .TIMA) (h2 : r ≠ .IF) :
    s.ticking.ioGet r = s.tickCounter.ioGet r := by
  obtain ⟨-, -, -, -, frame⟩ := ticking_spec s
  unfold State.ioGet State.addr
  rw [ticking_params]
  exact frame _ (by simpa using h1) (by simpa using h2)

theorem timerTick_ioGet {r : IoReg} (h1 : r ≠ .DIVLO) (h2 : r ≠ .DIV) (h3 : r ≠ .TIMA) (h4 : r ≠ .IF) :
    s.timerTick.ioGet r = s.ioGet r := by
  rw [timerTick_ioGet_of_ticking s h3, ticking_ioGet_of_tickCounter s h3 h4, tickCounter_ioGet s r h1 h2]

theorem tickCounter_counter : counter s.tickCounter = (counter s + 1) % 65536 := by
  rw [counter_eq, counter_eq, tickCounter_syscnt, BitVec.toNat_add]
  rfl

theorem ticking_counter : counter s.ticking = (counter s + 1) % 65536 := by
  rw [← tickCounter_counter]
  unfold counter
  rw [ticking_ioGet_of_tickCounter s (by decide) (by decide), ticking_ioGet_of_tickCounter s (by decide) (by decide)]

theorem timerTick_counter : counter s.timerTick = (counter s + 1) % 65536 := by
  rw [← ticking_counter]
  unfold counter
  rw [timerTick_ioGet_of_ticking s (by decide), timerTick_ioGet_of_ticking s (by decide)]

theorem timerTick_IF : s.timerTick.ioGet .IF =
    if s.pendingOverflow then withBit (s.ioGet .IF) 2 true else s.ioGet .IF := by
  obtain ⟨-, iflag, -⟩ := ticking_spec s
  rw [timerTick_ioGet_of_ticking s (by decide), iflag]

theorem ticking_TAC : s.ticking.ioGet .TAC = s.ioGet .TAC := by
  rw [ticking_ioGet_of_tickCounter s (by decide) (by decide), tickCounter_ioGet s _ (by decide) (by decide)]

theorem ticking_enabled : s.ticking.ioBit .TAC 2 = (s.ioGet .TAC).getLsbD 2 := congrArg (bitAt · 2) (ticking_TAC s)

theorem ticking_tapBit : s.ticking.tapBit = s.nextTap := by
  unfold State.tapBit State.nextTap
  rw [ticking_TAC, ← ticking_counter, counter_eq]
  rfl

/-- The tick of a fall counts TIMA, and its wrap leaves the overflow pending (R333). -/
theorem timerTick_fall (h : s.falls) : s.timerTick.ioGet .TIMA = s.reloaded + 1
    ∧ s.timerTick.pendingOverflow = decide (s.reloaded = 0xFF) ∧ s.timerTick.lastSample = s.nextTap := by
  obtain ⟨on, was, now⟩ := h
  obtain ⟨tima, -, pending, sample, -⟩ := ticking_spec s
  obtain ⟨tima', pending', -⟩ := countTima_spec s.ticking
  rw [timerTick_eq, tickSample_fall s.ticking ((ticking_enabled s).trans on) (sample.trans was)
    ((ticking_tapBit s).trans now), setLastSample_ioGet, State.setLastSample_pendingOverflow,
    State.setLastSample_lastSample, tima', pending', tima, pending, Bool.or_false, now]
  exact ⟨rfl, rfl, rfl⟩

/-- Any other tick leaves TIMA as part (b) did; enabled, it keeps the sample. -/
theorem timerTick_level (h : ¬ s.falls) : s.timerTick.ioGet .TIMA = s.reloaded ∧ s.timerTick.pendingOverflow = false
    ∧ s.timerTick.lastSample = if (s.ioGet .TAC).getLsbD 2 then s.nextTap else s.lastSample := by
  obtain ⟨tima, -, pending, sample, -⟩ := ticking_spec s
  cases on : (s.ioGet .TAC).getLsbD 2 with
  | false =>
    rw [timerTick_eq, tickSample_disabled s.ticking ((ticking_enabled s).trans on)]
    exact ⟨tima, pending, sample⟩
  | true =>
    rw [timerTick_eq, tickSample_level s.ticking ((ticking_enabled s).trans on)
      fun fall => h ⟨on, sample.symm.trans fall.1, (ticking_tapBit s).symm.trans fall.2⟩, setLastSample_ioGet,
      State.setLastSample_pendingOverflow, State.setLastSample_lastSample, ticking_tapBit]
    exact ⟨tima, pending, rfl⟩

/-- With the timer enabled every tick keeps the sample. -/
theorem timerTick_sample (h : (s.ioGet .TAC).getLsbD 2 = true) : s.timerTick.lastSample = s.nextTap := by
  by_cases hf : s.falls
  · obtain ⟨-, -, sample⟩ := timerTick_fall s hf
    exact sample
  · obtain ⟨-, -, sample⟩ := timerTick_level s hf
    exact sample.trans (if_pos h)

theorem timerAdvance_succ (n : Nat) : s.timerAdvance (n + 1) = (s.timerAdvance n).timerTick := timerAdvance_add s n 1

end Tick

/-- Settles O52: a tick is a fall or it is none, and in both cases the rest of the tick is the same. -/
theorem timerTickFollowsTheRule : Obligations.TimerTickFollowsTheRule := by
  refine ⟨fun s => ?_, fun s => ⟨rfl, timerAdvance_succ s⟩⟩
  intro t tap on now tima at'
  have hnow : now = s.nextTap := congrArg (Nat.testBit · tap) (timerTick_counter s)
  have falls : on ∧ s.lastSample = true ∧ now = false ↔ s.falls := by
    rw [hnow]
    exact Iff.rfl
  rw [falls, hnow]
  refine ⟨timerTick_counter s, fun pending => ?_, fun k h => ?_, fun fall => ?_, fun level => ?_, fun enabled => ?_,
    fun disabled => ?_, fun x h1 h2 h3 h4 => timerTick_rawGet s h1 h2 h3 h4⟩
  · rw [timerTick_IF, if_pos pending, getLsbD_withBit _ _ _ _ (by decide), if_pos rfl]
  · rw [timerTick_IF]
    split
    · next pending =>
      have other : k ≠ 2 := h.resolve_right (by simp [pending])
      rw [getLsbD_withBit _ _ _ _ (by decide), if_neg other]
    · rfl
  · obtain ⟨counted, pending, -⟩ := timerTick_fall s fall
    exact ⟨counted, pending⟩
  · obtain ⟨kept, pending, -⟩ := timerTick_level s level
    exact ⟨kept, pending⟩
  · exact timerTick_sample s enabled
  · obtain ⟨-, -, sample⟩ := timerTick_level s fun fall => disabled fall.1
    exact sample.trans (if_neg disabled)

/-! ### A period of the selected bit (R332, R333, R334, R338) -/

theorem timerTap_lt (tac : Byte) : timerTap tac < 16 := by
  unfold timerTap
  split <;> decide

/-- A bit of a number is set in the upper half of its period. -/
theorem testBit_iff_upper_half (c k : Nat) : c.testBit k = true ↔ 2 ^ k ≤ c % 2 ^ (k + 1) := by
  have := Nat.mod_lt c (Nat.two_pow_pos k)
  rw [Nat.testBit_eq_decide_div_mod_eq, decide_eq_true_iff, Nat.mod_pow_succ]
  obtain h | h := Nat.mod_two_eq_zero_or_one (c / 2 ^ k) <;> rw [h] <;> omega

/-- A bit falls where its period ends. -/
theorem falls_iff_period_ends (c k : Nat) :
    c.testBit k = true ∧ (c + 1).testBit k = false ↔ (c + 1) % 2 ^ (k + 1) = 0 := by
  have pos := Nat.two_pow_pos k
  have half : 2 ^ (k + 1) = 2 * 2 ^ k := Nat.pow_succ'
  have lt := Nat.mod_lt c (Nat.two_pow_pos (k + 1))
  have one : 1 % 2 ^ (k + 1) = 1 := Nat.mod_eq_of_lt (by omega)
  rw [← Bool.not_eq_true, testBit_iff_upper_half, testBit_iff_upper_half, Nat.add_mod_eq_ite, one]
  split <;> omega

section Period
variable {s : State} {k : Nat}

/-- The timer is enabled with the tap at bit `k`, and the sample is up to date. -/
def Tuned (s : State) (k : Nat) : Prop := TapIs s k ∧ s.lastSample = (counter s).testBit k

theorem timerTap_of_tapIs (h : TapIs s k) : timerTap (s.ioGet .TAC) = k := h.2.symm

theorem lt_of_tapIs (h : TapIs s k) : k < 16 := timerTap_of_tapIs h ▸ timerTap_lt _

theorem nextTap_of_tapIs (h : TapIs s k) : s.nextTap = (counter s + 1).testBit k := by
  unfold State.nextTap
  rw [timerTap_of_tapIs h, Nat.testBit_mod_two_pow (counter s + 1) 16 k, decide_eq_true (lt_of_tapIs h), Bool.true_and]

theorem falls_iff_of_tuned (h : Tuned s k) : s.falls ↔ (counter s + 1) % 2 ^ (k + 1) = 0 := by
  obtain ⟨htap, sample⟩ := h
  rw [← falls_iff_period_ends, ← sample, ← nextTap_of_tapIs htap]
  exact ⟨fun fall => fall.2, fun fall => ⟨htap.1, fall⟩⟩

theorem tuned_timerTick (h : Tuned s k) : Tuned s.timerTick k := by
  obtain ⟨htap, -⟩ := h
  have tac : s.timerTick.ioGet .TAC = s.ioGet .TAC := timerTick_ioGet s (by decide) (by decide) (by decide) (by decide)
  have tap : TapIs s.timerTick k := by
    unfold TapIs
    rw [tac]
    exact htap
  refine ⟨tap, ?_⟩
  rw [timerTick_sample s htap.1, State.nextTap, timerTap_of_tapIs htap, timerTick_counter]

theorem tuned_timerAdvance (h : Tuned s k) (n : Nat) : Tuned (s.timerAdvance n) k := by
  induction n generalizing s with
  | zero => exact h
  | succ n ih => exact ih (tuned_timerTick h)

theorem timerAdvance_TMA (s : State) (n : Nat) : (s.timerAdvance n).ioGet .TMA = s.ioGet .TMA := by
  induction n generalizing s with
  | zero => rfl
  | succ n ih => exact (ih s.timerTick).trans (timerTick_ioGet s (by decide) (by decide) (by decide) (by decide))

/-- The place in the period moves on with the ticks; the counter's own wrap is the end of a period as well. -/
theorem timerAdvance_phase (h : TapIs s k) (n : Nat) :
    counter (s.timerAdvance n) % 2 ^ (k + 1) = (counter s + n) % 2 ^ (k + 1) := by
  have divides : 2 ^ (k + 1) ∣ 65536 := Nat.pow_dvd_pow (n := 16) 2 (lt_of_tapIs h)
  induction n with
  | zero => simp [State.timerAdvance]
  | succ n ih =>
    rw [timerAdvance_succ, timerTick_counter, Nat.mod_mod_of_dvd _ divides, ← Nat.mod_add_mod, ih, Nat.mod_add_mod,
      Nat.add_assoc]

theorem reloaded_of_idle (h : s.pendingOverflow = false) : s.reloaded = s.ioGet .TIMA := by
  rw [State.reloaded, h, if_neg Bool.false_ne_true]

theorem timerTick_IF_of_idle (h : s.pendingOverflow = false) : s.timerTick.ioGet .IF = s.ioGet .IF := by
  rw [timerTick_IF, h, if_neg Bool.false_ne_true]

/-- Before the end of the period, with no overflow pending, the ticks count nothing. -/
theorem timerAdvance_level (h : Tuned s k) (hp : s.pendingOverflow = false) {n : Nat}
    (hn : counter s % 2 ^ (k + 1) + n < 2 ^ (k + 1)) : (s.timerAdvance n).ioGet .TIMA = s.ioGet .TIMA
      ∧ (s.timerAdvance n).pendingOverflow = false ∧ (s.timerAdvance n).ioGet .IF = s.ioGet .IF := by
  induction n with
  | zero => exact ⟨rfl, hp, rfl⟩
  | succ n ih =>
    obtain ⟨tima, idle, iflag⟩ := ih (by omega)
    have phase : (counter (s.timerAdvance n) + 1) % 2 ^ (k + 1) = counter s % 2 ^ (k + 1) + (n + 1) := by
      rw [← Nat.mod_add_mod, timerAdvance_phase h.1, Nat.mod_add_mod, Nat.add_assoc, ← Nat.mod_add_mod,
        Nat.mod_eq_of_lt hn]
    have level : ¬ (s.timerAdvance n).falls := by
      rw [falls_iff_of_tuned (tuned_timerAdvance h n), phase]
      omega
    obtain ⟨kept, pending, -⟩ := timerTick_level _ level
    rw [timerAdvance_succ, kept, reloaded_of_idle idle, timerTick_IF_of_idle idle]
    exact ⟨tima, pending, iflag⟩

/-- In a period there is one fall, after which as many ticks are left as the counter was into its period. -/
theorem exists_fall_in_period (h : Tuned s k) (hp : s.pendingOverflow = false) :
    ∃ u : State, s.timerAdvance (2 ^ (k + 1)) = u.timerAdvance (counter s % 2 ^ (k + 1)) ∧ Tuned u k
      ∧ counter u % 2 ^ (k + 1) = 0 ∧ u.ioGet .TIMA = s.ioGet .TIMA + 1
      ∧ u.pendingOverflow = decide (s.ioGet .TIMA = 0xFF) ∧ u.ioGet .IF = s.ioGet .IF ∧ u.ioGet .TMA = s.ioGet .TMA := by
  have into := Nat.mod_lt (counter s) (Nat.two_pow_pos (k + 1))
  obtain ⟨before, split⟩ : ∃ n, 2 ^ (k + 1) = n + 1 + counter s % 2 ^ (k + 1) :=
    ⟨2 ^ (k + 1) - 1 - counter s % 2 ^ (k + 1), by omega⟩
  obtain ⟨tima, idle, iflag⟩ := timerAdvance_level h hp (n := before) (by omega)
  have ends : (counter s + (before + 1)) % 2 ^ (k + 1) = 0 := by
    rw [← Nat.mod_add_mod, Nat.add_comm, ← split, Nat.mod_self]
  have fall : (s.timerAdvance before).falls := by
    rw [falls_iff_of_tuned (tuned_timerAdvance h before), ← Nat.mod_add_mod, timerAdvance_phase h.1, Nat.mod_add_mod,
      Nat.add_assoc]
    exact ends
  obtain ⟨counted, pending, -⟩ := timerTick_fall _ fall
  rw [reloaded_of_idle idle, tima] at counted pending
  rw [← timerAdvance_succ] at counted pending
  refine ⟨s.timerAdvance (before + 1), ?_, tuned_timerAdvance h _, (timerAdvance_phase h.1 _).trans ends, counted,
    pending, ?_, timerAdvance_TMA s _⟩
  · rw [← timerAdvance_add, ← split]
  · rw [timerAdvance_succ, timerTick_IF_of_idle idle, iflag]

/-- After a fall that leaves the overflow pending, the next tick reloads TIMA and makes the request; the rest of the
period keeps both. -/
theorem timerAdvance_reload (h : Tuned s k) (hp : s.pendingOverflow = true) (h0 : counter s % 2 ^ (k + 1) = 0) {n : Nat}
    (hn : n + 1 < 2 ^ (k + 1)) : (s.timerAdvance (n + 1)).ioGet .TIMA = s.ioGet .TMA
      ∧ (s.timerAdvance (n + 1)).pendingOverflow = false
      ∧ (s.timerAdvance (n + 1)).ioGet .IF = withBit (s.ioGet .IF) 2 true := by
  have phase : (counter s + 1) % 2 ^ (k + 1) = 1 := by
    rw [← Nat.mod_add_mod, h0, Nat.mod_eq_of_lt (by omega)]
  have level : ¬ s.falls := by
    rw [falls_iff_of_tuned h, phase]
    decide
  obtain ⟨kept, idle, -⟩ := timerTick_level s level
  have phase' : counter s.timerTick % 2 ^ (k + 1) = 1 := (timerAdvance_phase h.1 1).trans phase
  obtain ⟨tima, idle', iflag⟩ := timerAdvance_level (tuned_timerTick h) idle (n := n) (by omega)
  exact ⟨tima.trans (kept.trans (if_pos hp)), idle', iflag.trans ((timerTick_IF s).trans (if_pos hp))⟩

end Period

/-- Settles O53: the one fall of the period counts TIMA; where that wraps it, the tick after it, if it is in the period,
reloads it. -/
theorem onePeriodCountsOnce : Obligations.OnePeriodCountsOnce := by
  intro s k htap hsample hp t
  obtain ⟨u, ht, tuned, hphase, tima, pending, iflag, tma⟩ := exists_fall_in_period ⟨htap, hsample⟩ hp
  have into := Nat.mod_lt (counter s) (Nat.two_pow_pos (k + 1))
  have ht : t = u.timerAdvance (counter s % 2 ^ (k + 1)) := ht
  rw [ht]
  refine ⟨fun h => ?_, fun h h0 => ?_, fun h h0 => ?_⟩
  · rw [decide_eq_false h] at pending
    obtain ⟨tima', idle, iflag'⟩ := timerAdvance_level tuned pending (n := counter s % 2 ^ (k + 1)) (by omega)
    exact ⟨tima'.trans tima, idle, iflag'.trans iflag⟩
  · rw [h0]
    exact ⟨tima.trans (by rw [h]; rfl), pending.trans (decide_eq_true h), iflag⟩
  · obtain ⟨n, hn⟩ := Nat.exists_eq_succ_of_ne_zero h0
    rw [hn] at into ⊢
    obtain ⟨tima', idle, iflag'⟩ := timerAdvance_reload tuned (pending.trans (decide_eq_true h)) hphase into
    refine ⟨tima'.trans tma, idle, fun j => ?_⟩
    rw [iflag', iflag, getLsbD_withBit _ _ _ _ (by decide)]

end Machine
end Sys2Proof
end

section
/-! The end of a display line (R354 to R357): LY is counted and compared with LYC, and OamScan or VBlank entered, with
their requests. -/

namespace Sys2Proof
namespace Machine

open Stated

/-! ### What the display's operations keep (R350) -/

/-- The accumulator, the pictures and their flag are as before, and so is all that is not the display's. -/
structure KeepsPictures (s t : State) : Prop where
  acc : t.lcdAcc = s.lcdAcc
  back : t.back = s.back
  frame : t.frame = s.frame
  ready : t.frameReady = s.frameReady
  only : DisplayOnly s t

section Kept
variable {s t u : State}

theorem KeepsPictures.trans (h1 : KeepsPictures s t) (h2 : KeepsPictures t u) : KeepsPictures s u :=
  ⟨h2.acc.trans h1.acc, h2.back.trans h1.back, h2.frame.trans h1.frame, h2.ready.trans h1.ready,
    displayOnly_trans h1.only h2.only⟩

variable (s)

theorem keepsPictures_ioSet {r : IoReg} (v : Byte) (h : r = .STAT ∨ r = .LY ∨ r = .IF) :
    KeepsPictures s (s.ioSet r v) :=
  ⟨rfl, rfl, rfl, rfl, displayOnly_ioSet s v h⟩

theorem keepsPictures_enterMode (m : LcdMode) : KeepsPictures s (s.enterMode m) :=
  ⟨rfl, rfl, rfl, rfl, displayOnly_enterMode s m⟩

theorem keepsPictures_requestLcd (k : Nat) : KeepsPictures s (s.requestLcd k) := by
  obtain ⟨back, frame, ready⟩ := requestLcd_pictures s k
  exact ⟨requestLcd_lcdAcc s k, back, frame, ready, displayOnly_requestLcd s k⟩

theorem keepsPictures_compareLy : KeepsPictures s s.compareLy := by
  obtain ⟨v, e | ⟨w, e⟩⟩ := compareLy_cases s
  · rw [e]
    exact keepsPictures_ioSet s v (.inl rfl)
  · rw [e]
    exact (keepsPictures_ioSet s v (.inl rfl)).trans (keepsPictures_ioSet _ w (.inr (.inr rfl)))

theorem keepsPictures_enterOamScan : KeepsPictures s s.enterOamScan :=
  (keepsPictures_enterMode s .oamScan).trans (keepsPictures_requestLcd _ 5)

/-! ### The line compare (R356) -/

theorem and_three_toNat (v : Byte) : (v &&& 0x03).toNat = v.toNat % 4 := by
  revert v
  decide +kernel

theorem statBecomes_compareLy :
    StatBecomes s s.compareLy ((s.ioGet .STAT).toNat % 4) (decide (s.ioGet .LY = s.ioGet .LYC)) := by
  refine ⟨?_, (compareLy_STAT s 2).trans (if_pos rfl), fun k hk => (compareLy_STAT s k).trans (if_neg (by omega))⟩
  rw [← and_three_toNat, compareLy_stat, and_three_toNat]

theorem requests_compareLy :
    Requests s s.compareLy (decide (s.ioGet .LY = s.ioGet .LYC) && (s.ioGet .STAT).getLsbD 6) false := fun k => by
  rw [compareLy_IF, Bool.and_false, Bool.or_false]

end Kept

/-- Settles O57: the compare writes STAT bit 2 and perhaps a request in IF. -/
theorem lineCompareSetsTheFlag : Obligations.LineCompareSetsTheFlag := by
  intro s
  obtain ⟨acc, back, frame, ready, only⟩ := keepsPictures_compareLy s
  exact ⟨statBecomes_compareLy s, requests_compareLy s, compareLy_ioGet s .LY (by decide) (by decide), only,
    compareLy_lcdMode s, acc, back, frame, ready⟩

/-! ### The next line -/

/-- LY has become `v` and been compared with LYC, and the mode is as before. -/
structure LineIs (s t : State) (v : Byte) : Prop where
  ly : t.ioGet .LY = v
  stat : StatBecomes s t ((s.ioGet .STAT).toNat % 4) (decide (v = s.ioGet .LYC))
  requests : Requests s t (decide (v = s.ioGet .LYC) && (s.ioGet .STAT).getLsbD 6) false
  mode : t.lcdMode = s.lcdMode
  kept : KeepsPictures s t

section Line
variable {s t : State} {v : Byte}

theorem setLy_ly (s : State) (v : Byte) : (s.setLy v).ioGet .LY = v := ioGet_ioSet_same s .LY v

theorem setLy_ioGet (s : State) (v : Byte) {r : IoReg} (h : r ≠ .LY) : (s.setLy v).ioGet r = s.ioGet r :=
  ioGet_ioSet_other s .LY r v h

theorem lineIs_compareLy (s : State) (v : Byte) : LineIs s (s.setLy v).compareLy v := by
  have stat := statBecomes_compareLy (s.setLy v)
  have requests := requests_compareLy (s.setLy v)
  unfold StatBecomes at stat
  unfold Requests at requests
  simp only [setLy_ly, setLy_ioGet s v (r := .LYC) (by decide), setLy_ioGet s v (r := .STAT) (by decide),
    setLy_ioGet s v (r := .IF) (by decide)] at stat requests
  exact ⟨(compareLy_ioGet _ .LY (by decide) (by decide)).trans (setLy_ly s v), stat, requests,
    compareLy_lcdMode (s.setLy v), (keepsPictures_ioSet s v (.inr (.inl rfl))).trans (keepsPictures_compareLy _)⟩

/-- An earlier value of LY plays no part. -/
theorem LineIs.of_setLy {w : Byte} (h : LineIs (s.setLy w) t v) : LineIs s t v := by
  obtain ⟨ly, stat, requests, mode, kept⟩ := h
  unfold StatBecomes at stat
  unfold Requests at requests
  simp only [setLy_ioGet s w (r := .LYC) (by decide), setLy_ioGet s w (r := .STAT) (by decide),
    setLy_ioGet s w (r := .IF) (by decide)] at stat requests
  exact ⟨ly, stat, requests, mode, (keepsPictures_ioSet s w (.inr (.inl rfl))).trans kept⟩

/-- A mode entered after it takes the code in STAT; the compare's bit and the enable bits stay. -/
theorem LineIs.stat_enterMode (h : LineIs s t v) (m : LcdMode) :
    StatBecomes s (t.enterMode m) m.code.toNat (decide (v = s.ioGet .LYC)) := by
  obtain ⟨-, compared, enables⟩ := h.stat
  obtain ⟨code, others⟩ := enterMode_STAT t m
  exact ⟨code, (others 2 (Nat.le_refl 2)).trans compared, fun k hk => (others k (by omega)).trans (enables k hk)⟩

/-- OamScan on the next line. -/
theorem LineIs.enterOamScan (h : LineIs s t v) : t.enterOamScan.lcdMode = .oamScan ∧ t.enterOamScan.ioGet .LY = v
    ∧ StatBecomes s t.enterOamScan 2 (decide (v = s.ioGet .LYC))
    ∧ Requests s t.enterOamScan
        ((decide (v = s.ioGet .LYC) && (s.ioGet .STAT).getLsbD 6) || (s.ioGet .STAT).getLsbD 5) false
    ∧ KeepsPictures s t.enterOamScan := by
  have stat := h.stat_enterMode .oamScan
  refine ⟨enterOamScan_lcdMode t, (enterOamScan_ly t).trans h.ly, statBecomes_requestLcd s 5 stat, fun k => ?_,
    h.kept.trans (keepsPictures_enterOamScan t)⟩
  obtain ⟨-, -, enables⟩ := stat
  rw [State.enterOamScan, requestLcd_IF, enterMode_ioGet _ _ _ (by decide), enables 5 (by decide), h.requests k]
  cases decide (k = 1) <;> simp [Bool.or_assoc]

/-- VBlank on the next line. -/
theorem LineIs.enterVBlank (h : LineIs s t v) : t.enterVBlank.lcdMode = .vBlank ∧ t.enterVBlank.ioGet .LY = v
    ∧ StatBecomes s t.enterVBlank 1 (decide (v = s.ioGet .LYC))
    ∧ Requests s t.enterVBlank (decide (v = s.ioGet .LYC) && (s.ioGet .STAT).getLsbD 6) true
    ∧ t.enterVBlank.lcdAcc = s.lcdAcc ∧ t.enterVBlank.back = s.back ∧ t.enterVBlank.frame = s.back
    ∧ t.enterVBlank.frameReady = true ∧ DisplayOnly s t.enterVBlank := by
  have kept := (h.kept.trans (keepsPictures_enterMode t .vBlank)).trans
    (keepsPictures_ioSet _ (withBit ((t.enterMode .vBlank).ioGet .IF) 0 true) (.inr (.inr rfl)))
  refine ⟨enterVBlank_lcdMode t, ?_, ?_, fun k => ?_, kept.acc, kept.back, kept.back, rfl, kept.only⟩
  · rw [enterVBlank_ioGet t .LY (by decide), enterMode_ioGet t .vBlank .LY (by decide), h.ly]
  · unfold StatBecomes
    rw [enterVBlank_ioGet t .STAT (by decide)]
    exact h.stat_enterMode .vBlank
  · rw [State.enterVBlank, publishFrame_ioGet, State.raiseBit, ioGet_ioSet_same, IntSource.bit,
      getLsbD_withBit _ _ _ _ (by decide), enterMode_ioGet _ _ _ (by decide), h.requests k]
    by_cases hk : k = 0 <;> simp [hk]

end Line

/-! ### Leaving HBlank (R354, R357, R360) -/

section HBlank
variable {s : State} (n : Nat)

/-- Rendering writes the back buffer alone. -/
theorem renderLine_eq (s : State) : s.renderLine = s.setBack s.renderLine.back := by
  unfold State.renderLine
  split <;> rfl

theorem renderLine_back_visible (h : (s.ioGet .LY).toNat < 144) (y x : Nat) :
    pixelAt s.renderLine.back y x =
      if y = (s.ioGet .LY).toNat then (s.scanline y).getD x 0 else pixelAt s.back y x := by
  have e : s.renderLine = s.renderScanline (s.ioGet .LY).toNat := if_pos h
  rw [e, State.renderScanline, State.setBack_back, pixelAt, Sparse.read_write]
  by_cases hy : y = (s.ioGet .LY).toNat
  · rw [if_pos hy, if_pos hy, hy]
  · rw [if_neg hy, if_neg hy, pixelAt]

theorem renderLine_back_invisible (h : 144 ≤ (s.ioGet .LY).toNat) : s.renderLine.back = s.back :=
  congrArg State.back (if_neg (Nat.not_lt.2 h))

/-- The state in which the mode that follows HBlank is entered. -/
def State.nextLine (s : State) : State := (s.renderLine.setLy (s.ioGet .LY + 1)).compareLy

theorem lineIs_nextLine (s : State) : LineIs (s.setBack s.renderLine.back) s.nextLine (s.ioGet .LY + 1) := by
  unfold State.nextLine
  rw [renderLine_eq]
  exact lineIs_compareLy _ _

theorem succ_toNat_eq_144 (v : Byte) : (v + 1).toNat = 144 ↔ v.toNat = 143 := by
  revert v
  decide +kernel

/-- Line 144 begins VBlank, and every other line OamScan. -/
theorem leaveHBlank_eq (s : State) :
    s.leaveHBlank = if (s.ioGet .LY).toNat = 143 then s.nextLine.enterVBlank else s.nextLine.enterOamScan := by
  have ly : s.nextLine.ly = s.ioGet .LY + 1 := (lineIs_nextLine s).ly
  simp only [← succ_toNat_eq_144, ← ly]
  unfold State.leaveHBlank State.nextLine State.ly
  simp only [renderLine_ioGet]

theorem displayAdvance_hBlank (hm : s.lcdMode = .hBlank) (h : 204 ≤ s.lcdAcc + n) :
    s.displayAdvance n = (s.setLcdAcc ((s.lcdAcc + n) % 204)).leaveHBlank := by
  rw [displayAdvance_reached s n hm h, State.leaveMode, State.setLcdAcc_lcdMode, hm]
  rfl

end HBlank

/-- Settles O55: the line is rendered, LY counted and compared, and on line 144 VBlank entered, on any other OamScan. -/
theorem leavingHBlankEndsTheLine : Obligations.LeavingHBlankEndsTheLine := by
  intro s n hm h t ly same stat
  have ht : t = (s.setLcdAcc ((s.lcdAcc + n) % 204)).leaveHBlank := displayAdvance_hBlank n hm h
  generalize (s.lcdAcc + n) % 204 = r at ht ⊢
  have rendered : t.back = (s.setLcdAcc r).renderLine.back →
      (ly < 144 → ∀ y x, x < 160 → pixelAt t.back y x =
          if y = ly then (s.scanline y).getD x 0 else pixelAt s.back y x)
        ∧ (144 ≤ ly → t.back = s.back) := fun back =>
    ⟨fun visible y x _ => back ▸ renderLine_back_visible (s := s.setLcdAcc r) visible y x,
      fun invisible => back.trans (renderLine_back_invisible (s := s.setLcdAcc r) invisible)⟩
  have next := lineIs_nextLine (s.setLcdAcc r)
  rw [leaveHBlank_eq] at ht
  by_cases last : ly = 143
  · rw [setLcdAcc_ioGet, if_pos last] at ht
    obtain ⟨mode, line, stat', requests, acc, back, frame, ready, only⟩ := next.enterVBlank
    rw [← ht] at mode line stat' requests acc back frame ready only
    obtain ⟨visible, invisible⟩ := rendered back
    exact ⟨acc, line, only, visible, invisible, fun _ => ⟨mode, stat', requests, frame.trans back.symm, ready⟩,
      fun other => absurd last other⟩
  · rw [setLcdAcc_ioGet, if_neg last] at ht
    obtain ⟨mode, line, stat', requests, acc, back, frame, ready, only⟩ := next.enterOamScan
    rw [← ht] at mode line stat' requests acc back frame ready only
    obtain ⟨visible, invisible⟩ := rendered back
    exact ⟨acc, line, only, visible, invisible, fun eq => absurd eq last,
      fun _ => ⟨mode, stat', requests, frame, ready⟩⟩

/-! ### The end of a VBlank line (R355) -/

section VBlank
variable {s : State} (n : Nat)

/-- Up to line 153 VBlank goes on. -/
theorem endVBlankLine_next (h : (s.ioGet .LY + 1).toNat ≤ 153) :
    s.endVBlankLine = (s.setLy (s.ioGet .LY + 1)).compareLy := by
  unfold State.endVBlankLine State.ly
  simp only [setLy_ly]
  exact if_neg (Nat.not_lt.2 h)

/-- After line 153 the frame begins again. -/
theorem endVBlankLine_wrap (h : 153 < (s.ioGet .LY + 1).toNat) :
    s.endVBlankLine = ((s.setLy (s.ioGet .LY + 1)).setLy 0).compareLy.enterOamScan := by
  unfold State.endVBlankLine State.ly
  simp only [setLy_ly]
  exact if_pos h

theorem displayAdvance_vBlank (hm : s.lcdMode = .vBlank) (h : 456 ≤ s.lcdAcc + n) :
    s.displayAdvance n = (s.setLcdAcc ((s.lcdAcc + n) % 456)).endVBlankLine := by
  rw [displayAdvance_reached s n hm h, State.leaveMode, State.setLcdAcc_lcdMode, hm]
  rfl

end VBlank

/-- Settles O56: LY is counted and compared, or set to 0, compared and OamScan entered. -/
theorem vBlankLinesCountAndWrap : Obligations.VBlankLinesCountAndWrap := by
  intro s n hm h t up stat
  have ht : t = (s.setLcdAcc ((s.lcdAcc + n) % 456)).endVBlankLine := displayAdvance_vBlank n hm h
  generalize (s.lcdAcc + n) % 456 = r at ht ⊢
  by_cases last : 153 < up.toNat
  · have ht : t = (((s.setLcdAcc r).setLy up).setLy 0).compareLy.enterOamScan := ht.trans (endVBlankLine_wrap last)
    have line := (lineIs_compareLy ((s.setLcdAcc r).setLy up) 0).of_setLy
    obtain ⟨mode, ly, stat', requests, acc, back, frame, ready, only⟩ := line.enterOamScan
    rw [← ht] at mode ly stat' requests acc back frame ready only
    have flipped : decide ((0 : Byte) = (s.setLcdAcc r).ioGet .LYC) = decide (s.ioGet .LYC = 0) :=
      decide_eq_decide.2 eq_comm
    rw [flipped] at stat' requests
    exact ⟨acc, fun next => absurd last (Nat.not_lt.2 next), fun _ => ⟨mode, ly, stat', requests⟩, back, frame, ready,
      only⟩
  · have ht : t = ((s.setLcdAcc r).setLy up).compareLy := ht.trans (endVBlankLine_next (Nat.not_lt.1 last))
    obtain ⟨ly, stat', requests, mode, acc, back, frame, ready, only⟩ := lineIs_compareLy (s.setLcdAcc r) up
    rw [← ht] at mode ly stat' requests acc back frame ready only
    exact ⟨acc, fun _ => ⟨mode.trans hm, ly, stat', requests⟩, fun wraps => absurd wraps last, back, frame, ready, only⟩

end Machine
end Sys2Proof
end

section
/-! The background and the window (R360 to R363): the tile that covers a pixel, the address of its row, the two plane bits
and the palette's shade. -/

namespace Sys2Proof
namespace Machine

section Background
variable (s : State)

/-- Without sprites a pixel is the background pass's shade. -/
theorem pixelShade_nil (ly x : Nat) : s.pixelShade [] ly x = s.bgShade ly x := rfl

theorem bgIndex_off (ly x : Nat) (h : (s.ioGet .LCDC).getLsbD 0 = false) : s.bgIndex ly x = 0 :=
  if_neg fun on => Bool.false_ne_true (h.symm.trans on)

theorem bgShade_off (ly x : Nat) (h : (s.ioGet .LCDC).getLsbD 0 = false) : s.bgShade ly x = 0 :=
  if_neg fun on => Bool.false_ne_true (h.symm.trans on)

/-- A tile's data: from 0x8000, or with signed numbers from 0x9000, where those of 128 and above lie in the same place. -/
theorem tileAddr_eq (id : Byte) : s.tileAddr id =
    if (s.ioGet .LCDC).getLsbD 4 ∨ 128 ≤ id.toNat then 0x8000 + id.toNat * 16 else 0x9000 + id.toNat * 16 := by
  have := id.isLt
  have signed := BitVec.toInt_eq_toNat_cond id
  unfold State.tileAddr State.ioBit bitAt
  by_cases h4 : (s.ioGet .LCDC).getLsbD 4 = true
  · rw [if_pos h4, if_pos (.inl h4)]
  · rw [if_neg h4, if_congr (or_iff_right h4) rfl rfl]
    split at signed <;> split <;> omega

/-- The tile's colour index in numbers, from the address of its row's two plane bytes. -/
theorem tileIndex_toNat {map px py addr : Nat}
    (h : addr = s.tileAddr (s.rawGet (map + py / 8 * 32 + px / 8)) + py % 8 * 2) :
    (s.tileIndex map px py).toNat =
      (s.rawGet (addr + 1)).toNat / 2 ^ (7 - px % 8) % 2 * 2 + (s.rawGet addr).toNat / 2 ^ (7 - px % 8) % 2 := by
  rw [h, Nat.mul_comm (py % 8) 2]
  exact planeIndex_toNat _ _ _

variable {s} {ly x : Nat}

theorem usesWindow_iff : s.usesWindow ly x = true ↔
    (s.ioGet .LCDC).getLsbD 5 = true ∧ (s.ioGet .WY).toNat ≤ ly ∧ (s.ioGet .WX).toNat ≤ x + 7 := by
  simp [State.usesWindow, State.ioBit, bitAt, and_assoc]

/-- With the background on, the colour index is that of the tile at the pixel's place. -/
theorem bgIndex_on (h : (s.ioGet .LCDC).getLsbD 0 = true) {map px py : Nat} (hc : s.planeCoord ly x = (map, px, py)) :
    s.bgIndex ly x = s.tileIndex map px py := by
  have on : s.bgOn = true := h
  unfold State.bgIndex
  rw [if_pos on, hc]

theorem bgShade_on (h : (s.ioGet .LCDC).getLsbD 0 = true) :
    (s.bgShade ly x).toNat = (s.ioGet .BGP).toNat / 4 ^ (s.bgIndex ly x).toNat % 4 := by
  have on : s.bgOn = true := h
  unfold State.bgShade
  rw [if_pos on, paletteShade_toNat]

/-- The place of a pixel is counted from the window's corner, or scrolled in the background. -/
theorem planeCoord_eq {map px py : Nat}
    (hw : s.usesWindow ly x = true → px + (s.ioGet .WX).toNat = x + 7 ∧ py + (s.ioGet .WY).toNat = ly
      ∧ map = if (s.ioGet .LCDC).getLsbD 6 then 0x9C00 else 0x9800)
    (hb : ¬ s.usesWindow ly x = true → px = ((s.ioGet .SCX).toNat + x) % 256 ∧ py = ((s.ioGet .SCY).toNat + ly) % 256
      ∧ map = if (s.ioGet .LCDC).getLsbD 3 then 0x9C00 else 0x9800) : s.planeCoord ly x = (map, px, py) := by
  unfold State.planeCoord
  split
  · next window =>
    obtain ⟨hx, hy, rfl⟩ := hw window
    rw [← hx, ← hy, Nat.add_sub_cancel, Nat.add_sub_cancel]
    rfl
  · next background =>
    obtain ⟨rfl, rfl, rfl⟩ := hb background
    rfl

end Background

/-- Settles O58: the pixel's place gives the tile, the tile's row the colour index, and the palette its shade. -/
theorem backgroundPixel : Obligations.BackgroundPixel := by
  intro s ly x hly hx lcdc wx wy window
  refine ⟨fun noSprites => ?_, fun off => ⟨bgIndex_off s ly x off, bgShade_off s ly x off⟩,
    fun on px py map addr idx hw hb haddr hidx => ?_⟩
  · rw [scanline_getD s ly hx, lineSprites_off s ly noSprites]
  · have place : s.planeCoord ly x = (map, px, py) :=
      planeCoord_eq (fun h => hw (usesWindow_iff.1 h)) (fun h => hb (mt usesWindow_iff.2 h))
    have index : (s.bgIndex ly x).toNat = idx := by
      rw [bgIndex_on on place, hidx]
      exact tileIndex_toNat s (by rw [haddr, tileAddr_eq])
    exact ⟨index, by rw [pixelShade_nil, bgShade_on on, index]⟩

end Machine
end Sys2Proof
end
